-- ==== Sys2Proof/Syntax.lean ====
section
/-! DEFINITION. The commands: one constructor per row of spec/opcode_table.json (30_encoding R92,
R103). The power operand is the integer the command port carries (10_state R40, 30_encoding R94). -/

namespace Sys2Proof

/-- A command as the host offers it (00_scope R1, 30_encoding R103). -/
inductive Instr where
  /-- PROBE (41_commands R141). -/
  | probe
  /-- GETID (41_commands R143). -/
  | getid
  /-- SETPWR p (41_commands R145, R146): any integer can be offered. -/
  | setpwr (p : Int)
  deriving DecidableEq, Repr

end Sys2Proof
end

