-- ==== Sys2Proof/WellFormed.lean ====
section
/-! DEFINITION. Which offered commands exist: the power range is the one check (41_commands R146). -/

namespace Sys2Proof

/-- The largest power value, the "boost" sentinel (00_scope R8). -/
abbrev Instr.powerMax : Int := 101

/-- A command of the closed set: SETPWR only with 0 <= p <= 101 (41_commands R146). -/
def Instr.wellFormed : Instr → Bool
  | .probe => true
  | .getid => true
  | .setpwr p => decide (0 ≤ p) && decide (p ≤ Instr.powerMax)

end Sys2Proof
end

