-- ==== Sys2Proof/Word.lean ====
section
/-! DEFINITION. The unit of storage, of transfer and of addressing: the byte of 8 bits
(20_memory R61). Every other quantity of the block is a natural number (10_state R41). -/

namespace Sys2Proof

/-- A byte (00_scope R17, 20_memory R61). -/
abbrev Byte := BitVec 8

end Sys2Proof
end

