-- ==== Sys2Proof/Decode.lean ====
section
/-! DEFINITION. The decoder of command payloads (30_encoding R97), total on any bytes and rejecting
by name; the encoder, which is PAYLOAD of the registry (41_commands R140); and the reading of a word
of spec/opcode_table.json. -/

namespace Sys2Proof

/-- Why a byte sequence is no command payload ("anything else is not a command of this block",
30_encoding R97). -/
inductive DecodeReject where
  /-- No byte at all. -/
  | empty
  /-- The first byte is none of 0x00, 0x11, 0x14. -/
  | unknownOpcode (b : Byte)
  /-- A known opcode with the wrong number of bytes. -/
  | wrongLength (n : Nat)
  /-- GETID's second byte is not its fixed 0x01. -/
  | badFixedByte (b : Byte)
  /-- SETPWR's operand byte is above 0x65. -/
  | powerRange (b : Byte)
  deriving DecidableEq, Repr

/-- The opcode byte of PROBE (30_encoding R92). -/
def opProbe : Byte := 0x00
/-- The opcode byte of GETID (30_encoding R92). -/
def opGetid : Byte := 0x14
/-- The fixed second byte of GETID (30_encoding R92). -/
def opGetidFixed : Byte := 0x01
/-- The opcode byte of SETPWR (30_encoding R92). -/
def opSetpwr : Byte := 0x11
/-- The largest operand byte of SETPWR (30_encoding R92). -/
def operandMax : Nat := 0x65

/-- The command a payload encodes (30_encoding R97). -/
def decode : List Byte → Except DecodeReject Instr
  | [] => .error .empty
  | [op] =>
    if op = opProbe then .ok .probe
    else if op = opGetid ∨ op = opSetpwr then .error (.wrongLength 1)
    else .error (.unknownOpcode op)
  | [op, x] =>
    if op = opGetid then (if x = opGetidFixed then .ok .getid else .error (.badFixedByte x))
    else if op = opSetpwr then
      (if x.toNat ≤ operandMax then .ok (.setpwr x.toNat) else .error (.powerRange x))
    else if op = opProbe then .error (.wrongLength 2)
    else .error (.unknownOpcode op)
  | op :: _ :: _ :: rest =>
    if op = opProbe ∨ op = opGetid ∨ op = opSetpwr then .error (.wrongLength (rest.length + 3))
    else .error (.unknownOpcode op)

/-- PAYLOAD (41_commands R140): the payload bytes of a command, meant for well-formed ones only. -/
def encode : Instr → List Byte
  | .probe => [opProbe]
  | .getid => [opGetid, opGetidFixed]
  | .setpwr p => [opSetpwr, BitVec.ofInt 8 p]

/-- The `n` low bytes of `w`, the most significant first: spec/opcode_table.json numbers a row's
payload as one number whose leading byte is the first payload byte (log 16). -/
def tableBytes : Nat → Nat → List Byte
  | 0, _ => []
  | n + 1, w => BitVec.ofNat 8 (w / 256 ^ n) :: tableBytes n w

/-- The command this decoder reads from a word of `nbits` bits of spec/opcode_table.json. -/
def decodeTableWord (nbits w : Nat) : Option Instr :=
  match decode (tableBytes (nbits / 8) w) with
  | .ok i => some i
  | .error _ => none

end Sys2Proof
end

