-- ==== Sys2Proof/Machine/Values.lean ====
section
/-! DEFINITION. The values the registers and ports hold: phases, the latched command, failure kinds
and causes, responses, transport answers, and the actions on the ports. Data only. -/

namespace Sys2Proof.Machine

/-- The phases of the sequencer register `pc` (10_state R22). -/
inductive Phase where
  | idle | preFlush | send | receive | validate | dispatch | postFlush
  deriving DecidableEq, Repr, Inhabited

/-- What the command latch can hold: a command with its power in range (10_state R23). -/
inductive Command where
  | probe
  | getid
  | setpwr (p : Fin 102)
  deriving DecidableEq, Repr, Inhabited

/-- The diagnostic causes (60_exceptions R231, R233). -/
inductive Cause where
  | noiseOverrun | frameOverrun | lenFloor | badHeader | badFooter | badChecksum | statusShort
  | powerRange | variantMismatch
  deriving DecidableEq, Repr, Inhabited

/-- The six failure kinds (60_exceptions R230). -/
inductive FailureKind where
  | malformedFrame | timeout | contractViolation | noResponse | cantConnect | configInvalid
  deriving DecidableEq, Repr, Inhabited

/-- A failure: its kind and what is recorded with it (60_exceptions R231 to R234). -/
inductive Failure where
  | malformedFrame (cause : Cause)
  | timeout (count : Nat)
  | contractViolation (cause : Cause)
  | noResponse
  | cantConnect
  | configInvalid
  deriving DecidableEq, Repr, Inhabited

/-- The outcome of an operation that can fail (00_scope R19): a value or a failure, never both. -/
inductive Ret (α : Type) where
  | ok (v : α)
  | fail (f : Failure)
  deriving DecidableEq, Repr, Inhabited

/-- What DECODE returns on success (40_frame_codec R125). -/
structure Frame where
  dest : Byte
  payload : List Byte
  deriving DecidableEq, Repr, Inhabited

/-- An exact decimal with one fractional digit, held as its raw byte with scale 10
(10_state R29, 40_frame_codec R138). -/
structure Tenths where
  raw : Byte
  deriving DecidableEq, Repr, Inhabited

/-- The fields of `OperationalStatus`, in the order of 10_state R29. -/
structure Status where
  phSetpoint : Tenths
  phCurrent : Tenths
  outputSetpoint : Nat
  outputCurrent : Nat
  deriving DecidableEq, Repr, Inhabited

/-- The three response variants (10_state R29). -/
inductive Response where
  | probeAck
  | identity (id : List Byte)
  | operationalStatus (s : Status)
  deriving DecidableEq, Repr, Inhabited

/-- The type of the result register (10_state R29). -/
abbrev Result := Ret Response

/-- One answer of the transport to `RxEvent()` (60_exceptions R258): a byte, or the no-byte report. -/
inductive Answer where
  | byte (b : Byte)
  | silence
  deriving DecidableEq, Repr, Inhabited

/-- One entry of the line's script, one entry for one step of the machine: the bytes that reach the
input buffer in that step, in whatever phase the block is (20_memory R81), or the transport breaking
its contract, after which no read ever answers (42_stream_receiver R176). The model's own form of the
free draws of 10_state R34 and R35 (log 6, log 9). -/
inductive LineEvent where
  | arrive (bs : List Byte)
  | stopped
  deriving DecidableEq, Repr, Inhabited

/-- The actions on the block's ports and the host's own, in the order they are made
(43_transaction_driver R191, 44_host_lifecycle R203). `openTransport` is the host's call of
`open(path)` (60_exceptions R256); `wait` marks a host delay (R216, log 14). -/
inductive Action where
  | openTransport (path : List Byte)
  | flushIn
  | flushOut
  | txWrite (s : List Byte)
  | rxEvent (a : Answer)
  | result (r : Result)
  | wait (d : Nat)
  | onConnected (id : List Byte)
  | onTelemetry (s : Status)
  | onLinkUp
  | onLinkDown
  deriving DecidableEq, Repr

/-- The host's connection states (44_host_lifecycle R201). -/
inductive ConnState where
  | disconnected | connecting | connected | cantConnect
  deriving DecidableEq, Repr, Inhabited

/-- Where the host stands: `opening` before its call of `open(SERIAL_PATH)` (70_reset R275, R276), then
its place in the lifecycle's pseudocode (44_host_lifecycle R216; log 13). `gap…` is a host delay about
to be spent before the next command, `await…` a transaction in progress. -/
inductive HostPhase where
  | opening | start | awaitProbe | gapIdentify | awaitIdentity | gapRetry | gapPoll | awaitPoll | stopped
  deriving DecidableEq, Repr, Inhabited

end Sys2Proof.Machine
end

