-- ==== Sys2Proof/Config.lean ====
section
/-! DEFINITION. The configuration registers (00_scope R9 to R16, 10_state R31) with the constraints
that make a configuration valid, and the free values: constants with no body, which nothing in Lean
can evaluate. -/

namespace Sys2Proof

/-- The configuration record: one field per parameter (10_state R31). -/
structure Config where
  /-- DEST (00_scope R9). -/
  dest : Byte
  /-- MAX_FRAME_LEN (R10). -/
  maxFrameLen : Nat
  /-- NOISE_BOUND (R11). -/
  noiseBound : Nat
  /-- TIMEOUT_LIMIT (R12). -/
  timeoutLimit : Nat
  /-- OFF_PH_SP (R13). -/
  offPhSp : Nat
  /-- OFF_OUT_SP (R13). -/
  offOutSp : Nat
  /-- OFF_PH_CUR (R13). -/
  offPhCur : Nat
  /-- OFF_OUT_CUR (R13). -/
  offOutCur : Nat
  /-- STATUS_MIN_PAYLOAD_LEN (R13). -/
  statusMinPayloadLen : Nat
  /-- PRINTABLE (R14), as the rising list of its members. -/
  printable : List Byte
  /-- ATTEMPT_CAP (R15); 0 means unlimited. -/
  attemptCap : Nat
  /-- STREAK_THRESHOLD (R15). -/
  streakThreshold : Nat
  /-- QUIESCENCE (R15), in units the spec does not name (log 14). -/
  quiescence : Nat
  /-- POLL_PERIOD (R15), in the same units. -/
  pollPeriod : Nat
  /-- SERIAL_PATH (R15), the argument of the transport's `open`; no rule looks inside it. -/
  serialPath : List Byte
  deriving DecidableEq, Repr, Inhabited

/-- A valid configuration: the constraints of 00_scope R10, R12 and R13, which R16 and 70_reset R277
name. DESIGN CHOICE (log 35): the table of R16 also lists R14's condition on PRINTABLE and R283's
POLL_PERIOD >= QUIESCENCE as constraints, and the model counts a configuration that breaks one of these
two as invalid too, which no rule says. -/
abbrev Config.Valid (c : Config) : Prop :=
  6 ≤ c.maxFrameLen ∧ 1 ≤ c.timeoutLimit
  ∧ [c.offPhSp, c.offOutSp, c.offPhCur, c.offOutCur].Nodup
  ∧ (c.offPhSp < c.statusMinPayloadLen ∧ c.offOutSp < c.statusMinPayloadLen
      ∧ c.offPhCur < c.statusMinPayloadLen ∧ c.offOutCur < c.statusMinPayloadLen)
  ∧ (c.printable.Pairwise (fun a b => a.toNat < b.toNat) ∧ 0x41#8 ∈ c.printable
      ∧ 0x42#8 ∈ c.printable ∧ 0x43#8 ∈ c.printable ∧ 0x00#8 ∉ c.printable)
  ∧ c.quiescence ≤ c.pollPeriod

/-- A configuration the block can be constructed with: an invalid one never reaches it
(00_scope R16, 70_reset R277). -/
abbrev ValidConfig := { c : Config // c.Valid }

/-- The set the spec takes for PRINTABLE, space to tilde (00_scope R14, from general knowledge, G1).
The model does not fix it (log 23); this is the value a configuration of that reading has. -/
def Config.printableAscii : List Byte := (List.range 95).map (fun k => BitVec.ofNat 8 (0x20 + k))

/-- The least values the constraints allow; it stands only where `Config.chosen` is invalid. -/
def Config.least : ValidConfig :=
  ⟨{ dest := 0, maxFrameLen := 6, noiseBound := 0, timeoutLimit := 1,
     offPhSp := 0, offOutSp := 1, offPhCur := 2, offOutCur := 3, statusMinPayloadLen := 4,
     printable := [0x41, 0x42, 0x43], attemptCap := 0, streakThreshold := 0,
     quiescence := 0, pollPeriod := 0, serialPath := [] }, by decide⟩

/-- FREE VALUE. The values the machine was configured with (10_state R42 "the configured values";
log 2). -/
opaque Config.chosen : Config

/-- The configuration of the constructed machine: the chosen one, which is valid or the block is
never constructed (70_reset R277; log 2). -/
def Config.configured : ValidConfig :=
  if h : Config.chosen.Valid then ⟨Config.chosen, h⟩ else Config.least

/-- FREE VALUE. The bytes that reach the input buffer in a step the script does not cover
(10_state R34, R35; log 6). -/
opaque Config.freeArrival : Nat → List Byte

/-- FREE VALUE. How many bytes leave the output buffer for the line in a step
(60_exceptions R257; log 8). -/
opaque Config.freeDrain : Nat → Nat

/-- FREE VALUE. The contents of a transport buffer where the spec leaves them unspecified: the output
buffer between transactions (10_state R34; log 8), and both after a reset asserted while busy
(70_reset R273; log 11). -/
opaque Config.freeBytes : Nat → List Byte

/-- FREE VALUE. The power value presented at a poll the script does not cover, and after a reset
(10_state R39; log 12). -/
opaque Config.freePower : Nat → Int

/-- FREE VALUE. The input buffer's contents after power-on (10_state R34, R42; log 7). -/
opaque Config.tinAtStart : List Byte

/-- FREE VALUE. The output buffer's contents after power-on (10_state R34, R42; log 7). -/
opaque Config.toutAtStart : List Byte

/-- FREE VALUE. `current_power` after power-on, "unspecified: a host input" (10_state R42; log 12). -/
opaque Config.powerAtStart : Int

/-- FREE VALUE. What a read of `cmd` gives when it holds no value, which no run does (log 5). -/
opaque Config.emptyCommand : Machine.Command

/-- FREE VALUE. What a read of `tx_frame` gives when it holds no value, which no run does (log 5). -/
opaque Config.emptyFrame : List Byte

/-- FREE VALUE. What a read of `res` gives when it holds no value, which no run does (log 5). -/
opaque Config.emptyResult : Machine.Result

end Sys2Proof
end

