-- ==== Sys2Proof/Machine/State.lean ====
section
/-! DEFINITION. The architectural state of the block, of its host and of the part of the transport
the block can affect (10_state R20), the state after reset (R42), and the two ways a step can stop. -/

namespace Sys2Proof.Machine

/-- The one way the machine gets stuck. -/
inductive Fault where
  /-- Raised by the RECEIVE phase when the transport breaks its contract and never answers a read:
  "the model has no step for it" (42_stream_receiver R176, U4). Safe: the machine stops where the
  hardware waits for ever. -/
  | transportStopped
  deriving DecidableEq, Repr

/-- Why a step has no meaning. -/
inductive Refusal where
  /-- An instruction rejected by name in exec's arm; no arm uses it. Safe. -/
  | notModelled (mnemonic : String)
  /-- Raised by every phase that acts on the transport when the transport is not open: its behaviour
  "is in no source, and the model has no step for it" (70_reset R276, U11). Safe. -/
  | transportNotOpen
  deriving DecidableEq, Repr

/-- The receive buffer, the block's one addressable memory (20_memory R60): the byte at index k is
the k-th element, so equal memories are equal data (log 18). -/
abbrev Memory := List Byte

/-- The four receiver registers (10_state R25 to R28). -/
structure RxState where
  unsynced : Bool
  discardCnt : Nat
  timeoutCnt : Nat
  buf : Memory
  deriving DecidableEq, Repr, Inhabited

/-- The transport as the block can affect it (10_state R34), whether it is open (70_reset R276), whether
it still keeps its contract to answer every read (42_stream_receiver R176), and the model's own script
and counter for what the line does (10_state R35; log 6). -/
structure Transport where
  isOpen : Bool
  answering : Bool
  tin : List Byte
  tout : List Byte
  line : List LineEvent
  draws : Nat
  deriving DecidableEq, Repr, Inhabited

/-- The host's registers (10_state R36 to R39), its place in the lifecycle (44_host_lifecycle R216;
log 13), and the model's own script and counter for its power input (log 12). -/
structure HostState where
  connState : ConnState
  attemptCount : Nat
  failureStreak : Nat
  currentPower : Int
  phase : HostPhase
  powers : List Int
  draws : Nat
  deriving DecidableEq, Repr, Inhabited

/-- The machine's state. -/
structure State where
  /-- The configuration registers (10_state R31), read-only. -/
  cfg : ValidConfig
  /-- The sequencer phase (R22). -/
  pc : Phase
  /-- The command latch (R23); `none` is the spec's "no value". -/
  cmd : Option Command
  /-- The transmit frame register (R24); `none` is the spec's "no value". -/
  txFrame : Option (List Byte)
  /-- The receiver registers (R25 to R28). -/
  rx : RxState
  /-- The result register (R29); `none` is the spec's "no value". -/
  res : Option Result
  /-- The transport (R34). -/
  tp : Transport
  /-- The host (R36 to R39). -/
  host : HostState
  /-- The command port: the command event being offered, if any (R40). -/
  port : Option Instr
  /-- The result port: the result delivered and not yet consumed by the host, if any (R40). -/
  resultPort : Option Result
  /-- The reset input (R40, 70_reset R270). -/
  resetIn : Bool
  /-- The actions made so far, oldest first: the model's own output history (log 15). -/
  trace : List Action
  deriving DecidableEq, Repr

/-- The receiver registers after reset, and `rx_init` of 42_stream_receiver R178 (10_state R42). -/
def RxState.init : RxState :=
  { unsynced := true, discardCnt := 0, timeoutCnt := 0, buf := [] }

/-- The state after reset and after construction (10_state R42, 70_reset R270 to R272). The host has
opened the transport before, and its call stands in the output history (70_reset R275, 60_exceptions
R256; log 10). -/
def State.reset : State :=
  { cfg := Config.configured
    pc := .idle
    cmd := none
    txFrame := none
    rx := RxState.init
    res := none
    tp := { isOpen := true, answering := true, tin := Config.tinAtStart, tout := Config.toutAtStart,
            line := [], draws := 0 }
    host := { connState := .disconnected, attemptCount := 0, failureStreak := 0,
              currentPower := Config.powerAtStart, phase := .start, powers := [], draws := 0 }
    port := none
    resultPort := none
    resetIn := false
    trace := [.openTransport Config.configured.val.serialPath] }

/-- The machine one moment earlier: configured, and the transport not yet opened (70_reset R275). The
host's first step from here opens it. -/
def State.powerOn : State :=
  { State.reset with
    tp := { State.reset.tp with isOpen := false }
    host := { State.reset.host with phase := .opening }
    trace := [] }

end Sys2Proof.Machine
end

