-- ==== Sys2Proof/Machine/Ops.lean ====
section
/-! DEFINITION. The named operations over the buffer, the registers, the transport and the ports
(00_scope R18), ending a transaction by a failure and its return (60_exceptions R243, R244), and the
reset (70_reset R270 to R273). -/

namespace Sys2Proof.Machine

/-! ## Byte sequences -/

/-- `s[i:j]`: the bytes at indices i to j-1, empty when j <= i (00_scope R17). -/
def slice (s : List Byte) (i j : Nat) : List Byte := (s.take j).drop i

/-- `last2(s)`, used only when `s` has two bytes (00_scope R17). -/
def last2 (s : List Byte) : List Byte := slice s (s.length - 2) s.length

/-! ## The receive buffer -/

/-- `MemRead(a, n)`: the `n` bytes from index `a` (00_scope R18). -/
def memRead (m : Memory) (a n : Nat) : List Byte := slice m a (a + n)

/-- `MemWrite(a, n, v)` with `n` the length of `v` (00_scope R18). -/
def memWrite (m : Memory) (a : Nat) (v : List Byte) : Memory :=
  m.take a ++ v ++ m.drop (a + v.length)

/-- The only store the block performs: `buf <- buf ++ [b]`, which is `MemWrite(len(buf), 1, [b])`
(00_scope R18). -/
def memAppend (m : Memory) (b : Byte) : Memory := memWrite m m.length [b]

/-- The byte at an address; none outside 0 to len-1, where no rule ever reads (20_memory R60). -/
def memByte (m : Memory) (a : Nat) : Option Byte := m[a]?

/-- The buffer as (address, byte) pairs (20_memory R60; log 18). -/
def memCells (m : Memory) : List Host.Cell := m.zipIdx.map (fun p => (p.2, p.1))

/-- The canonical form of a list of cells: the addresses are exactly 0, 1, ... in rising order. -/
def Memory.wf (cs : List Host.Cell) : Bool := decide (cs.map Prod.fst = List.range cs.length)

/-! ## Registers -/

/-- The configuration registers as read by every rule. -/
abbrev State.conf (s : State) : Config := s.cfg.val

/-- `pc <- P` (00_scope R18). -/
def State.setPc (s : State) (p : Phase) : State := { s with pc := p }
/-- `cmd <- c` (10_state R23). -/
def State.setCmd (s : State) (c : Command) : State := { s with cmd := some c }
/-- `tx_frame <- f` (10_state R24). -/
def State.setTxFrame (s : State) (f : List Byte) : State := { s with txFrame := some f }
/-- Writes the four receiver registers (10_state R25 to R28). -/
def State.setRx (s : State) (r : RxState) : State := { s with rx := r }
/-- `res <- r` (10_state R29). -/
def State.setRes (s : State) (r : Result) : State := { s with res := some r }
/-- The transport after one of its operations. -/
def State.setTp (s : State) (t : Transport) : State := { s with tp := t }
/-- Writes the host's registers (10_state R36 to R39). -/
def State.setHost (s : State) (h : HostState) : State := { s with host := h }
/-- Puts a command event on the command port, or takes it off (10_state R40). -/
def State.setPort (s : State) (c : Option Instr) : State := { s with port := c }
/-- Puts a result on the result port, or takes it off (10_state R40). -/
def State.setResultPort (s : State) (r : Option Result) : State := { s with resultPort := r }
/-- Adds one action to the output history (log 15). -/
def State.log (s : State) (a : Action) : State := { s with trace := s.trace ++ [a] }

/-- The latched command; a free value in the states, which no run reaches, where the latch holds no
value (10_state R23; log 5). -/
def State.readCmd (s : State) : Command := s.cmd.getD Config.emptyCommand
/-- The transmit frame; a free value where the register holds no value (10_state R24; log 5). -/
def State.readTxFrame (s : State) : List Byte := s.txFrame.getD Config.emptyFrame
/-- The result; a free value where the register holds no value (10_state R29; log 5). -/
def State.readRes (s : State) : Result := s.res.getD Config.emptyResult

/-! ## The transport -/

/-- `reset_input_buffer()` (60_exceptions R259, 20_memory R83). -/
def Transport.flushIn (t : Transport) : Transport := { t with tin := [] }

/-- `reset_output_buffer()` (60_exceptions R259, 20_memory R83). -/
def Transport.flushOut (t : Transport) : Transport := { t with tout := [] }

/-- Some bytes leave the output buffer for the line, in order; how many is free
(60_exceptions R257; log 8). -/
def Transport.drain (t : Transport) : Transport :=
  { t with tout := t.tout.drop (Config.freeDrain t.draws), draws := t.draws + 1 }

/-- What reaches the input buffer in one step: the script's next entry, and a free draw where the
script has ended (10_state R34, R35; log 6). -/
def Transport.arrive (t : Transport) : Transport :=
  match t.line with
  | [] => { t with tin := t.tin ++ Config.freeArrival t.draws, draws := t.draws + 1 }
  | .arrive bs :: rest => { t with tin := t.tin ++ bs, line := rest }
  | .stopped :: rest => { t with answering := false, line := rest }

/-- What the line does in one step while a transaction runs: bytes arrive behind those that wait, and
handed-over bytes leave (20_memory R81, 60_exceptions R257). -/
def Transport.move (t : Transport) : Transport := t.arrive.drain

/-- What the line does in one step between transactions: bytes arrive, and the output buffer's contents
are "unspecified: any bytes" at the start of any transaction before the flush, so free
(10_state R34; log 8). -/
def Transport.between (t : Transport) : Transport :=
  { t.arrive with tout := Config.freeBytes t.arrive.draws, draws := t.arrive.draws + 1 }

/-- `open(path)` succeeds; it returns nothing a rule uses (60_exceptions R255, R256). The path goes to
the transport and stays in the action. -/
def Transport.opened (t : Transport) : Transport := { t with isOpen := true }

/-- `write(bytes)`: the bytes go behind those already handed over (60_exceptions R257). -/
def Transport.write (t : Transport) (s : List Byte) : Transport := { t with tout := t.tout ++ s }

/-- The oldest byte of the input buffer, removed from it, or the no-byte report
(60_exceptions R258). -/
def Transport.takeByte (t : Transport) : Answer × Transport :=
  match t.tin with
  | [] => (.silence, t)
  | b :: rest => (.byte b, { t with tin := rest })

/-- `read_one_byte(timeout)` (60_exceptions R258); none when it never returns
(42_stream_receiver R176; log 9). -/
def Transport.rxEvent (t : Transport) : Option (Answer × Transport) :=
  if t.answering then some t.takeByte else none

/-- The line moves, before the step's own actions (log 6). -/
def State.lineMoves (s : State) : State :=
  s.setTp (if s.pc = .idle then s.tp.between else s.tp.move)

/-- The host's one call of `open(SERIAL_PATH)` (60_exceptions R256, 70_reset R276). -/
def State.openTransport (s : State) : State :=
  (s.setTp s.tp.opened).log (.openTransport s.conf.serialPath)

/-- `FlushIn()` (00_scope R18). -/
def State.flushIn (s : State) : State := (s.setTp s.tp.flushIn).log .flushIn

/-- `FlushOut()` (00_scope R18). -/
def State.flushOut (s : State) : State := (s.setTp s.tp.flushOut).log .flushOut

/-- The pair of barriers, input first (20_memory R84). -/
def State.flushBoth (s : State) : State := s.flushIn.flushOut

/-- `TxWrite(f)`: one action, the whole frame (43_transaction_driver R184). -/
def State.txWrite (s : State) (f : List Byte) : State := (s.setTp (s.tp.write f)).log (.txWrite f)

/-! ## Results and failures -/

/-- `result(r)`: the result port delivers `r` (10_state R40). -/
def State.deliver (s : State) (r : Result) : State := (s.setResultPort (some r)).log (.result r)

/-- A failure inside an accepted transaction: it is the result, and every remaining step but the
post-flush and the delivery is skipped (60_exceptions R243). -/
def State.takeFailure (s : State) (f : Failure) : State := (s.setRes (.fail f)).setPc .postFlush

/-- The end of a transaction, failed or not: both flushes, one delivery, and back to IDLE
(43_transaction_driver R188, R189; 60_exceptions R244). -/
def State.complete (s : State) : State := (s.flushBoth.deliver s.readRes).setPc .idle

/-! ## Reset -/

/-- What a reset asserted in the middle of a transaction leaves of the transport: unspecified
buffers (70_reset R273; log 11). -/
def Transport.disturb (t : Transport) : Transport :=
  { t with tin := Config.freeBytes t.draws, tout := Config.freeBytes (t.draws + 1),
           draws := t.draws + 2 }

/-- The host's registers after reset (10_state R42); `current_power` is unspecified, so free, and the
power inputs to come are the environment's (log 12). A transport that was never opened is still to be
opened (70_reset R275). -/
def HostState.afterReset (h : HostState) (isOpen : Bool) : HostState :=
  { connState := .disconnected, attemptCount := 0, failureStreak := 0,
    currentPower := Config.freePower h.draws, phase := if isOpen then .start else .opening,
    powers := h.powers, draws := h.draws + 1 }

/-- Reset: every register at its reset value; the configuration is kept, and the transport's buffers
are not flushed (70_reset R270, R271), but are unspecified after a reset while busy (R273). -/
def State.applyReset (s : State) : State :=
  { cfg := s.cfg
    pc := .idle
    cmd := none
    txFrame := none
    rx := RxState.init
    res := none
    tp := if s.pc = .idle then s.tp else s.tp.disturb
    host := s.host.afterReset s.tp.isOpen
    port := none
    resultPort := none
    resetIn := false
    trace := s.trace }

end Sys2Proof.Machine
end

