-- ==== Sys2Proof/Machine/Codec.lean ====
section
/-! DEFINITION. The frame codec: CHECKSUM, ENCODE and DECODE (40_frame_codec). Pure functions. -/

namespace Sys2Proof.Machine

/-- HEADER (00_scope R8). -/
def headerBytes : List Byte := [0x10, 0x02]
/-- FOOTER (00_scope R8). -/
def footerBytes : List Byte := [0x10, 0x03]
/-- MARKER, the header's first byte (00_scope R8). -/
def marker : Byte := 0x10
/-- LEN_FLOOR (00_scope R8). -/
def lenFloor : Nat := 5

/-- `sum(s)`: the sum of the bytes as a natural number (00_scope R17). -/
def byteSum (s : List Byte) : Nat := (s.map BitVec.toNat).sum

/-- CHECKSUM: `sum(s) mod 256`, as one byte (40_frame_codec R120). -/
def checksum (s : List Byte) : Byte := BitVec.ofNat 8 (byteSum s % 256)

/-- The serial form of the checksum: an 8-bit accumulator that drops its carry
(40_frame_codec R121). -/
def checksumSerial (s : List Byte) : Byte := s.foldl (fun acc b => acc + b) 0

/-- ENCODE (40_frame_codec R123). -/
def encodeFrame (d : Byte) (payload : List Byte) : List Byte :=
  let pre := headerBytes ++ [d] ++ payload
  pre ++ [checksum pre] ++ footerBytes

/-- `raw[3 : n-3]`, the bytes strictly between DEST and CHECKSUM (20_memory R64). -/
def framePayload (raw : List Byte) : List Byte := slice raw 3 (raw.length - 3)

/-- DECODE (40_frame_codec R125 to R132): four tests in order, then the frame. The single bytes it
reads exist once the length test has passed. -/
def decodeFrame (raw : List Byte) : Ret Frame :=
  let n := raw.length
  if n < lenFloor then .fail (.malformedFrame .lenFloor)
  else if memRead raw 0 2 ≠ headerBytes then .fail (.malformedFrame .badHeader)
  else if memRead raw (n - 2) 2 ≠ footerBytes then .fail (.malformedFrame .badFooter)
  else if memByte raw (n - 3) ≠ some (checksum (slice raw 0 (n - 3))) then
    .fail (.malformedFrame .badChecksum)
  else .ok { dest := (memByte raw 2).getD 0, payload := framePayload raw }

end Sys2Proof.Machine
end

