-- ==== Sys2Proof/Machine/Operands.lean ====
section
/-! DEFINITION. The command/response registry (41_commands R140): every operand form of a command,
and every field of a response with its assembly (30_encoding R93 to R96). -/

namespace Sys2Proof.Machine

/-! ## Commands -/

/-- The power operand: the integer itself when it is 0 to 101, and nothing otherwise; never clamped,
wrapped or truncated (30_encoding R94, 41_commands R146). -/
def powerOperand (p : Int) : Option (Fin 102) :=
  if h : 0 ≤ p ∧ p ≤ Instr.powerMax then
    some ⟨p.toNat, by have := h.1; have := h.2; unfold Instr.powerMax at *; omega⟩
  else none

/-- The latched command as a command of the table. -/
def Command.instr : Command → Instr
  | .probe => .probe
  | .getid => .getid
  | .setpwr p => .setpwr p.val

/-- PAYLOAD (41_commands R140). -/
def payloadOf (c : Command) : List Byte := encode c.instr

/-- The frame a command sends (20_memory R66, 43_transaction_driver R182). -/
def commandFrame (cfg : Config) (c : Command) : List Byte := encodeFrame cfg.dest (payloadOf c)

/-! ## Responses -/

/-- The byte at a payload offset. The status floor guarantees that it exists (41_commands R148). -/
def payloadByte (payload : List Byte) (off : Nat) : Byte := (memByte payload off).getD 0

/-- `r / 10`, exact: the raw byte with scale 10 (30_encoding R95, 40_frame_codec R138). -/
def tenthsOf (r : Byte) : Tenths := { raw := r }

/-- The exact decimal value of a fixed-point field (40_frame_codec R138). -/
def Tenths.value (t : Tenths) : ℚ := (t.raw.toNat : ℚ) / 10

/-- `r * 10`, a natural number 0 to 2550 (30_encoding R95). -/
def tensOf (r : Byte) : Nat := r.toNat * 10

/-- ID_SKIP (00_scope R8). -/
def idSkip : Nat := 1

/-- The identity text: every printable byte after the prefix, in order (30_encoding R96). -/
def identityText (cfg : Config) (payload : List Byte) : List Byte :=
  (payload.drop idSkip).filter (fun b => decide (b ∈ cfg.printable))

/-- DECODE_ACK (41_commands R142): total. -/
def decodeAck (_payload : List Byte) : Ret Response := .ok .probeAck

/-- DECODE_IDENTITY (41_commands R144): total. -/
def decodeIdentity (cfg : Config) (payload : List Byte) : Ret Response :=
  .ok (.identity (identityText cfg payload))

/-- The four telemetry values of a status payload (41_commands R147). -/
def statusOf (cfg : Config) (payload : List Byte) : Status :=
  { phSetpoint := tenthsOf (payloadByte payload cfg.offPhSp)
    phCurrent := tenthsOf (payloadByte payload cfg.offPhCur)
    outputSetpoint := tensOf (payloadByte payload cfg.offOutSp)
    outputCurrent := tensOf (payloadByte payload cfg.offOutCur) }

/-- DECODE_STATUS (41_commands R147). -/
def decodeStatus (cfg : Config) (payload : List Byte) : Ret Response :=
  if payload.length < cfg.statusMinPayloadLen then .fail (.malformedFrame .statusShort)
  else .ok (.operationalStatus (statusOf cfg payload))

/-- DECODE_RESP (41_commands R140): the decoder is chosen by the command alone. -/
def decodeResp (cfg : Config) (c : Command) (payload : List Byte) : Ret Response :=
  match c with
  | .probe => decodeAck payload
  | .getid => decodeIdentity cfg payload
  | .setpwr _ => decodeStatus cfg payload

end Sys2Proof.Machine
end

