-- ==== Sys2Proof/Machine/Flags.lean ====
section
/-! DEFINITION. The status the block has (10_state R30): busy, the receiver's sync flag with the
limit tests beside it, and the kind of a result with its numeric code (60_exceptions R235). There is
no arithmetic condition code. -/

namespace Sys2Proof.Machine

/-- The block is busy exactly when pc is not IDLE (10_state R22, R30). -/
def State.busy (s : State) : Bool := decide (s.pc ≠ .idle)

/-- "Reaches": equality after the increment (42_stream_receiver R167). -/
def timeoutReached (cfg : Config) (r : RxState) : Bool := decide (r.timeoutCnt = cfg.timeoutLimit)

/-- "Exceeds": strictly greater, after the increment (42_stream_receiver R164). -/
def noiseExceeded (cfg : Config) (r : RxState) : Bool := decide (cfg.noiseBound < r.discardCnt)

/-- The length test after an append (42_stream_receiver R166). -/
def frameExceeded (cfg : Config) (r : RxState) : Bool := decide (cfg.maxFrameLen < r.buf.length)

/-- The kind of a failure (60_exceptions R230). -/
def Failure.kind : Failure → FailureKind
  | .malformedFrame _ => .malformedFrame
  | .timeout _ => .timeout
  | .contractViolation _ => .contractViolation
  | .noResponse => .noResponse
  | .cantConnect => .cantConnect
  | .configInvalid => .configInvalid

/-- The kind of a result: none for success (10_state R30 (c)). -/
def Ret.kind {α : Type} : Ret α → Option FailureKind
  | .ok _ => none
  | .fail f => some f.kind

/-- The numeric code of a failure kind (60_exceptions R235). -/
def FailureKind.code : FailureKind → Nat
  | .malformedFrame => 1
  | .timeout => 2
  | .contractViolation => 3
  | .noResponse => 4
  | .cantConnect => 5
  | .configInvalid => 6

/-- The numeric code of a result; 0 is `Ok` (60_exceptions R235). -/
def Ret.code {α : Type} (r : Ret α) : Nat := (r.kind.map FailureKind.code).getD 0

/-- The numeric code of a cause (60_exceptions R235). -/
def Cause.code : Cause → Nat
  | .noiseOverrun => 1
  | .frameOverrun => 2
  | .lenFloor => 3
  | .badHeader => 4
  | .badFooter => 5
  | .badChecksum => 6
  | .statusShort => 7
  | .powerRange => 8
  | .variantMismatch => 9

/-- Construction: an invalid configuration is rejected before the block exists
(60_exceptions R234, 70_reset R277). DESIGN CHOICE (log 35): the answer is ConfigInvalid also where only
R14's condition on PRINTABLE or R283's POLL_PERIOD >= QUIESCENCE is broken, for which R234 names no
failure. -/
def construct (c : Config) : Ret ValidConfig :=
  if h : c.Valid then .ok ⟨c, h⟩ else .fail .configInvalid

end Sys2Proof.Machine
end

