-- ==== Sys2Proof/Machine/Receiver.lean ====
section
/-! DEFINITION. The stream receiver (42_stream_receiver): one turn of its loop, and RECEIVE as the
fold of that turn over a list of answers (R178). -/

namespace Sys2Proof.Machine

/-- What one answer does to RECEIVE: it goes on, or it ends with an outcome and the registers as they
stand then (42_stream_receiver R178, 60_exceptions R243). -/
inductive RxStep where
  | more (r : RxState)
  | done (r : RxState) (o : Ret (List Byte))
  deriving DecidableEq, Repr

/-- A no-byte report (42_stream_receiver R167). -/
def rxSilence (cfg : Config) (r : RxState) : RxStep :=
  let r' := { r with timeoutCnt := r.timeoutCnt + 1 }
  if timeoutReached cfg r' then .done r' (.fail (.timeout r'.timeoutCnt)) else .more r'

/-- Unsynced, a byte other than the marker (42_stream_receiver R164). -/
def rxDiscard (cfg : Config) (r : RxState) : RxStep :=
  let r' := { r with discardCnt := r.discardCnt + 1 }
  if noiseExceeded cfg r' then .done r' (.fail (.malformedFrame .noiseOverrun)) else .more r'

/-- Unsynced, the marker byte (42_stream_receiver R165). -/
def rxSync (r : RxState) (b : Byte) : RxStep := .more { r with unsynced := false, buf := [b] }

/-- Synced, any byte: the length test, then the footer test (42_stream_receiver R166). -/
def rxStore (cfg : Config) (r : RxState) (b : Byte) : RxStep :=
  let r' := { r with buf := memAppend r.buf b }
  if frameExceeded cfg r' then .done r' (.fail (.malformedFrame .frameOverrun))
  else if last2 r'.buf = footerBytes then .done r' (.ok r'.buf)
  else .more r'

/-- `rx_step`: the body of RECEIVE's loop (42_stream_receiver R161, R178). -/
def rxStep (cfg : Config) (r : RxState) : Answer → RxStep
  | .silence => rxSilence cfg r
  | .byte b =>
    if r.unsynced then (if b = marker then rxSync r b else rxDiscard cfg r) else rxStore cfg r b

/-- RECEIVE on a finite list of answers: ended after `k` answers, or the list was too short. -/
inductive RxRun where
  | ended (r : RxState) (o : Ret (List Byte)) (k : Nat)
  | pending (r : RxState)
  deriving DecidableEq, Repr

/-- The fold of `rxStep`, with the number of answers consumed so far (42_stream_receiver R178). -/
def receiveFrom (cfg : Config) : RxState → Nat → List Answer → RxRun
  | r, _, [] => .pending r
  | r, k, a :: as =>
    match rxStep cfg r a with
    | .more r' => receiveFrom cfg r' (k + 1) as
    | .done r' o => .ended r' o (k + 1)

/-- RECEIVE (42_stream_receiver R161, R162). -/
def receive (cfg : Config) (as : List Answer) : RxRun := receiveFrom cfg RxState.init 0 as

/-- No call of RECEIVE takes more answers than this (42_stream_receiver R175). -/
def receiveBound (cfg : Config) : Nat := cfg.timeoutLimit + cfg.noiseBound + cfg.maxFrameLen

end Sys2Proof.Machine
end

