-- ==== Sys2Proof/Machine/Sequencer.lean ====
section
/-! DEFINITION. The transaction driver (43_transaction_driver): the acceptance of a command at IDLE,
and the transition of each busy phase (R190). One phase is one step; in RECEIVE, one answer is one
step (00_scope R3; log 3). -/

namespace Sys2Proof.Machine

/-- An outcome of the machine. -/
abbrev Step := Host.Outcome State Fault Refusal

/-- A phase that acts on the transport has a meaning only when the transport is open
(70_reset R276). -/
def onTransport (s : State) (k : State → Step) : Step :=
  if s.tp.isOpen then k s else .refused .transportNotOpen

/-- IDLE, a command taken: latched and encoded (43_transaction_driver R181 (b), R182). -/
def accept (c : Command) (s : State) : State :=
  ((s.setCmd c).setTxFrame (commandFrame s.conf c)).setPc .preFlush

/-- IDLE, a command refused: no register changes, no transport action, and the failure is delivered
at once (43_transaction_driver R181 (a), 41_commands R146). -/
def refusePower (s : State) : State := s.deliver (.fail (.contractViolation .powerRange))

/-- PRE_FLUSH (43_transaction_driver R183). -/
def preFlushStep (s : State) : State := s.flushBoth.setPc .send

/-- SEND: one write of the whole frame; the receiver registers are initialised
(43_transaction_driver R184, R190). -/
def sendStep (s : State) : State := ((s.txWrite s.readTxFrame).setRx RxState.init).setPc .receive

/-- RECEIVE: what one answer does (43_transaction_driver R185, R190). -/
def receiveAnswer (s : State) (a : Answer) : State :=
  match rxStep s.conf s.rx a with
  | .more r => s.setRx r
  | .done r (.ok _) => (s.setRx r).setPc .validate
  | .done r (.fail f) => (s.setRx r).takeFailure f

/-- RECEIVE: one call of RxEvent() and its answer; stuck when it never returns
(42_stream_receiver R163, R176). -/
def receiveStep (s : State) : Step :=
  match s.tp.rxEvent with
  | none => .fault .transportStopped
  | some (a, t) => .next (receiveAnswer ((s.setTp t).log (.rxEvent a)) a)

/-- VALIDATE (43_transaction_driver R186). -/
def validateStep (s : State) : State :=
  match decodeFrame s.rx.buf with
  | .ok _ => s.setPc .dispatch
  | .fail f => s.takeFailure f

/-- DISPATCH: the decoder is selected by the latched command and by nothing in the response
(43_transaction_driver R187). -/
def dispatchStep (s : State) : State :=
  match decodeResp s.conf s.readCmd (framePayload s.rx.buf) with
  | .ok v => (s.setRes (.ok v)).setPc .postFlush
  | .fail f => s.takeFailure f

/-- One step of the sequencer (43_transaction_driver R190); at IDLE it does nothing
(70_reset R272). -/
def sequence (s : State) : Step :=
  match s.pc with
  | .idle => .next s
  | .preFlush => onTransport s (fun s => .next (preFlushStep s))
  | .send => onTransport s (fun s => .next (sendStep s))
  | .receive => onTransport s receiveStep
  | .validate => .next (validateStep s)
  | .dispatch => .next (dispatchStep s)
  | .postFlush => onTransport s (fun s => .next s.complete)

/-- A command event on the port: taken or refused at IDLE; while the block is busy it is not taken
and has no effect of any kind, and the sequencer goes on (43_transaction_driver R181 (c); log 4). -/
def offer (c : Option Command) (s : State) : Step :=
  if s.busy then sequence s
  else match c with
    | some c => .next (accept c s)
    | none => .next (refusePower s)

end Sys2Proof.Machine
end

