-- ==== Sys2Proof/Machine/Commands.lean ====
section
/-! DEFINITION. The meaning of each command of the table: one step of the block while that command
stands on the command port (log 3). The rest of the transaction is the sequencer's. -/

namespace Sys2Proof.Machine

/-- PROBE (41_commands R141, R142; 43_transaction_driver R181). -/
def execProbe (s : State) : Step := offer (some .probe) s

/-- GETID (41_commands R143, R144; 43_transaction_driver R181). -/
def execGetid (s : State) : Step := offer (some .getid) s

/-- SETPWR p (41_commands R145 to R147; 43_transaction_driver R181). -/
def execSetpwr (p : Int) (s : State) : Step := offer ((powerOperand p).map .setpwr) s

end Sys2Proof.Machine
end

