-- ==== Sys2Proof/Machine/Dispatch.lean ====
section
/-! DEFINITION. One arm per command of spec/opcode_table.json. -/

namespace Sys2Proof.Machine

def exec (i : Instr) (s : State) : Host.Outcome State Fault Refusal :=
  match i with
  | .probe => Sys2Proof.Machine.execProbe s
  | .getid => Sys2Proof.Machine.execGetid s
  | .setpwr p => Sys2Proof.Machine.execSetpwr p s

end Sys2Proof.Machine
end

