-- ==== Sys2Proof/Machine/Lifecycle.lean ====
section
/-! DEFINITION. The connection lifecycle, the host of the block (44_host_lifecycle). One step of its
pseudocode (R216) at a time; it acts only when the block is idle (R200). -/

namespace Sys2Proof.Machine

/-- `wait(d)`: a host delay, not an event of the model; the trace keeps a mark of it
(44_host_lifecycle R215, R216; log 14). -/
def State.hostWait (s : State) (d : Nat) : State := s.log (.wait d)

/-- The host offers a command: EXECUTE(c) begins with the command event on the port, and the result
port is free for its result (44_host_lifecycle R200). -/
def State.offerCommand (s : State) (c : Instr) : State := (s.setPort (some c)).setResultPort none

/-- The failure kind a failed attempt is classified under (44_host_lifecycle R206,
60_exceptions R234): Timeout and MalformedFrame become NoResponse; nothing stores it. -/
def connectClass (f : Failure) : Failure :=
  match f.kind with
  | .malformedFrame => .noResponse
  | .timeout => .noResponse
  | .contractViolation => f
  | .noResponse => f
  | .cantConnect => f
  | .configInvalid => f

/-- The attempt cap is set and reached (44_host_lifecycle R206). -/
def capReached (cfg : Config) (n : Nat) : Bool := decide (cfg.attemptCap ≠ 0 ∧ n = cfg.attemptCap)

/-- Before the first command the host opens the transport (60_exceptions R256, 70_reset R276). -/
def openStep (s : State) : State := s.openTransport.setHost { s.host with phase := .start }

/-- Entry: Disconnected to Connecting, and the first attempt begins (44_host_lifecycle R204). -/
def connectStart (s : State) : State :=
  (s.setHost { s.host with connState := .connecting, attemptCount := 0, phase := .awaitProbe
    }).offerCommand .probe

/-- A failed attempt: counted once; at the cap the engine stops, otherwise it is tried again
(44_host_lifecycle R206, R208). -/
def attemptFailed (s : State) : State :=
  let n := s.host.attemptCount + 1
  if capReached s.conf n then
    s.setHost { s.host with attemptCount := n, connState := .cantConnect, phase := .stopped }
  else s.setHost { s.host with attemptCount := n, phase := .gapRetry }

/-- The result of PROBE (44_host_lifecycle R205). -/
def probeResult (s : State) : Result → State
  | .ok _ => s.setHost { s.host with phase := .gapIdentify }
  | .fail _ => attemptFailed s

/-- Both succeeded: connected, and the identity is handed over once (44_host_lifecycle R207). -/
def connectDone (s : State) (id : List Byte) : State :=
  (s.setHost { s.host with attemptCount := 0, failureStreak := 0, connState := .connected,
                           phase := .gapPoll }).log (.onConnected id)

/-- The result of GETID (44_host_lifecycle R206, R207; R216 tests for `ok(Identity(id))`). -/
def identityResult (s : State) : Result → State
  | .ok (.identity id) => connectDone s id
  | .ok .probeAck => attemptFailed s
  | .ok (.operationalStatus _) => attemptFailed s
  | .fail _ => attemptFailed s

/-- The power value presented at a poll: the script's next value, and a free draw where the script
has ended (10_state R39; log 12). -/
def HostState.samplePower (h : HostState) : HostState :=
  match h.powers with
  | [] => { h with currentPower := Config.freePower h.draws, draws := h.draws + 1 }
  | p :: rest => { h with currentPower := p, powers := rest }

/-- A poll: the cadence, then SETPWR with the value `current_power` has at that moment
(44_host_lifecycle R210). -/
def pollStart (s : State) : State :=
  ((s.hostWait s.conf.pollPeriod).setHost
    { s.host.samplePower with phase := .awaitPoll }).offerCommand
      (.setpwr s.host.samplePower.currentPower)

/-- A successful poll (44_host_lifecycle R211). -/
def pollSucceeded (s : State) (st : Status) : State :=
  ((s.setHost { s.host with failureStreak := 0, phase := .gapPoll }).log (.onTelemetry st)).log
    .onLinkUp

/-- A failed poll: link-down once per streak, when it exceeds the threshold
(44_host_lifecycle R212). -/
def pollFailed (s : State) : State :=
  let n := s.host.failureStreak + 1
  let s' := s.setHost { s.host with failureStreak := n, phase := .gapPoll }
  if n = s.conf.streakThreshold + 1 then s'.log .onLinkDown else s'

/-- The result of a poll (44_host_lifecycle R211, R212; R216 tests for a status). -/
def pollResult (s : State) : Result → State
  | .ok (.operationalStatus st) => pollSucceeded s st
  | .ok .probeAck => pollFailed s
  | .ok (.identity _) => pollFailed s
  | .fail _ => pollFailed s

/-- The host consumes the delivered result; with none delivered it waits (44_host_lifecycle R200). -/
def onResult (s : State) (k : State → Result → State) : State :=
  match s.resultPort with
  | none => s
  | some r => k (s.setResultPort none) r

/-- One step of the host: opening the transport, then the lifecycle (44_host_lifecycle R216). In `stopped` it does nothing for ever
(R208). -/
def hostStep (s : State) : State :=
  match s.host.phase with
  | .opening => openStep s
  | .start => connectStart s
  | .awaitProbe => onResult s probeResult
  | .gapIdentify =>
    ((s.hostWait s.conf.quiescence).setHost { s.host with phase := .awaitIdentity }).offerCommand
      .getid
  | .awaitIdentity => onResult s identityResult
  | .gapRetry =>
    ((s.hostWait s.conf.quiescence).setHost { s.host with phase := .awaitProbe }).offerCommand
      .probe
  | .gapPoll => pollStart s
  | .awaitPoll => onResult s pollResult
  | .stopped => s

end Sys2Proof.Machine
end

