-- ==== Sys2Proof/Machine/Act.lean ====
section
/-! DEFINITION. Which agent acts in a step once the line has moved: reset first, then a command on the
port, then the busy block, then the host (00_scope section 6). -/

namespace Sys2Proof.Machine

/-- What the machine does in one step. A command event is taken off the port in the step that meets it,
whatever becomes of it: it is never remembered (20_memory R86). -/
def act (s : State) : Host.Outcome State Fault Refusal :=
  if s.resetIn then .next s.applyReset
  else match s.port with
    | some i => exec i (s.setPort none)
    | none => if s.busy then sequence s else .next (hostStep s)

end Sys2Proof.Machine
end

