-- ==== Sys2Proof/Machine/Step.lean ====
section
/-! DEFINITION. One step of the machine, and the offer of a table word's command to it. -/

namespace Sys2Proof.Machine

/-- One step: bytes can arrive in every phase and between transactions (10_state R34, 20_memory R81), so
the line moves first, and then the machine acts. -/
def step (s : State) : Host.Outcome State Fault Refusal := act s.lineMoves

/-- `s` with a command on its command port, the block idle and reset not asserted, so that the next
step meets it. -/
def State.withCommand (s : State) (i : Option Instr) : State :=
  { s with port := i, pc := .idle, resetIn := false }

/-- `s` with the command of a table word offered at the command port, as a host would offer it
(log 17). The port can hold no word that is not a command (30_encoding R99). -/
def State.withFetchWord (s : State) (nbits w : Nat) : State :=
  s.withCommand (decodeTableWord nbits w)

end Sys2Proof.Machine
end

