-- ==== Sys2Proof/Machine/Transaction.lean ====
section
/-! DEFINITION. EXECUTE as one function of the configuration, the command and the answers that will
be drawn (43_transaction_driver R180, R195); the machine's steps are held against it. -/

namespace Sys2Proof.Machine

/-- What EXECUTE(cfg, c, es) returns (43_transaction_driver R195). -/
structure Transaction where
  result : Result
  consumed : Nat
  actions : List Action
  deriving DecidableEq, Repr

/-- The command the block takes for an offered one: none when it is refused at the port
(43_transaction_driver R181). -/
def taken : Instr → Option Command
  | .probe => some .probe
  | .getid => some .getid
  | .setpwr p => (powerOperand p).map .setpwr

/-- From RECEIVE's outcome to the transaction's result: DECODE, then the registry's decoder
(43_transaction_driver R185 to R187). -/
def judge (cfg : Config) (c : Command) : Ret (List Byte) → Result
  | .fail f => .fail f
  | .ok raw =>
    match decodeFrame raw with
    | .fail f => .fail f
    | .ok f => decodeResp cfg c f.payload

/-- EXECUTE on a finite list of answers; none when the list was too short
(43_transaction_driver R180, R191, R195). -/
def execute (cfg : Config) (i : Instr) (as : List Answer) : Option Transaction :=
  match taken i with
  | none =>
    some { result := .fail (.contractViolation .powerRange), consumed := 0,
           actions := [.result (.fail (.contractViolation .powerRange))] }
  | some c =>
    match receive cfg as with
    | .pending _ => none
    | .ended _ o k =>
      some { result := judge cfg c o, consumed := k,
             actions := [.flushIn, .flushOut, .txWrite (commandFrame cfg c)]
               ++ (as.take k).map .rxEvent
               ++ [.flushIn, .flushOut, .result (judge cfg c o)] }

/-- The answers of a transport to reads in the next `n` steps, and the transport after them; none when
it stops answering among them (10_state R35). -/
def Transport.answers : Nat → Transport → Option (List Answer × Transport)
  | 0, t => some ([], t)
  | n + 1, t =>
    match t.move.rxEvent with
    | none => none
    | some (a, u) =>
      match Transport.answers n u with
      | none => none
      | some (as, v) => some (a :: as, v)

/-- The transport as RECEIVE finds it: flushed, and the frame written behind what arrived after the
flush (43_transaction_driver R183, R184; 20_memory R81). -/
def Transport.atReceive (t : Transport) (f : List Byte) : Transport :=
  t.move.flushIn.flushOut.move.write f

end Sys2Proof.Machine
end

