-- ==== Sys2Proof/Safety.lean ====
section
/-! DEFINITION. What holds in every state a run reaches, and what counts as a safe environment, in the
terms the statements use. -/

namespace Sys2Proof.Machine

/-- The receiver's budgets (10_state R26 to R28, R41). -/
structure RxState.Bounded (cfg : Config) (r : RxState) : Prop where
  discard : r.discardCnt ≤ cfg.noiseBound + 1
  timeout : r.timeoutCnt ≤ cfg.timeoutLimit
  length : r.buf.length ≤ cfg.maxFrameLen + 1

/-- The receiver while RECEIVE goes on: no budget is spent, and the buffer is empty before the marker
and begins with it afterwards (10_state R25 to R28). -/
structure RxState.Live (cfg : Config) (r : RxState) : Prop where
  discard : r.discardCnt ≤ cfg.noiseBound
  timeout : r.timeoutCnt < cfg.timeoutLimit
  length : r.buf.length ≤ cfg.maxFrameLen
  empty : r.unsynced = true → r.buf = []
  synced : r.unsynced = false → r.buf.head? = some marker

/-- What is known of a raw frame RECEIVE returned (42_stream_receiver R168). -/
structure RawFrame (cfg : Config) (raw : List Byte) : Prop where
  atLeastTwo : 2 ≤ raw.length
  atMostMax : raw.length ≤ cfg.maxFrameLen
  begins : raw.head? = some marker
  ends : last2 raw = footerBytes

/-- The results an accepted command can end with (43_transaction_driver R193, 41_commands R150,
10_state R29). -/
def resultAllowed (cfg : Config) (c : Command) : Result → Bool
  | .ok .probeAck => decide (c = .probe)
  | .ok (.identity id) =>
    decide (c = .getid) && decide (id.length ≤ cfg.maxFrameLen - 7)
      && id.all (fun b => decide (b ∈ cfg.printable))
  | .ok (.operationalStatus st) =>
    (match c with
      | .probe => false
      | .getid => false
      | .setpwr _ => true)
      && decide (st.outputSetpoint ≤ 2550) && decide (st.outputCurrent ≤ 2550)
  | .fail (.timeout n) => decide (n = cfg.timeoutLimit)
  | .fail (.malformedFrame cause) =>
    match cause with
    | .noiseOverrun => true
    | .frameOverrun => true
    | .lenFloor => true
    | .badHeader => true
    | .badChecksum => true
    | .statusShort =>
      (match c with
        | .probe => false
        | .getid => false
        | .setpwr _ => true)
    | .badFooter => false
    | .powerRange => false
    | .variantMismatch => false
  | .fail (.contractViolation _) => false
  | .fail .noResponse => false
  | .fail .cantConnect => false
  | .fail .configInvalid => false

/-- A command is latched and its frame stands in the transmit register (10_state R23, R24). -/
def State.Latched (s : State) : Prop :=
  ∃ c, s.cmd = some c ∧ s.txFrame = some (commandFrame s.cfg.val c)

/-- The result register holds a result its command can have (43_transaction_driver R193). -/
def State.Finished (s : State) : Prop :=
  ∃ c r, s.cmd = some c ∧ s.res = some r ∧ resultAllowed s.cfg.val c r = true

/-- The block's registers hold no value, as after reset (10_state R42). -/
structure State.Untouched (s : State) : Prop where
  cmd : s.cmd = none
  txFrame : s.txFrame = none
  res : s.res = none

/-- The sequencer's registers in each phase (43_transaction_driver R190). -/
structure State.SequencerOk (s : State) : Prop where
  idle : s.pc = .idle → s.Untouched ∨ (s.Latched ∧ s.Finished)
  latched : s.pc ≠ .idle → s.Latched
  receive : s.pc = .receive → s.rx.Live s.cfg.val
  received : s.pc = .validate ∨ s.pc = .dispatch → RawFrame s.cfg.val s.rx.buf
  valid : s.pc = .dispatch → ∃ d, decodeFrame s.rx.buf = .ok { dest := d, payload := framePayload s.rx.buf }
  finished : s.pc = .postFlush → s.Finished

/-- The lifecycle's place is one where a transaction of its own is in progress. -/
def HostPhase.awaiting : HostPhase → Bool
  | .opening => false
  | .start => false
  | .awaitProbe => true
  | .gapIdentify => false
  | .awaitIdentity => true
  | .gapRetry => false
  | .gapPoll => false
  | .awaitPoll => true
  | .stopped => false

/-- The connection state that belongs to each place in the lifecycle (44_host_lifecycle R201, R216). -/
def HostPhase.connState : HostPhase → ConnState
  | .opening => .disconnected
  | .start => .disconnected
  | .awaitProbe => .connecting
  | .gapIdentify => .connecting
  | .awaitIdentity => .connecting
  | .gapRetry => .connecting
  | .gapPoll => .connected
  | .awaitPoll => .connected
  | .stopped => .cantConnect

/-- The host's registers (10_state R36 to R38; 44_host_lifecycle R206, R207): the attempt count stays
below a cap that is set until the cap stops the engine, and a lifecycle that awaits a result has a
command on the port, a transaction in progress, or the result delivered; past its opening the transport
is open (70_reset R276). -/
structure State.HostOk (s : State) : Prop where
  place : s.host.connState = s.host.phase.connState
  connecting : s.host.phase.connState = .connecting →
    s.cfg.val.attemptCap = 0 ∨ s.host.attemptCount < s.cfg.val.attemptCap
  cantConnect : s.host.phase.connState = .cantConnect →
    s.cfg.val.attemptCap ≠ 0 ∧ s.host.attemptCount = s.cfg.val.attemptCap
  noAttempt : s.host.phase.connState = .connected ∨ s.host.phase.connState = .disconnected →
    s.host.attemptCount = 0
  noStreak : s.host.phase.connState ≠ .connected → s.host.failureStreak = 0
  awaits : s.host.phase.awaiting = true →
    s.port.isSome = true ∨ s.pc ≠ .idle ∨ s.resultPort.isSome = true
  opened : s.host.phase ≠ .opening → s.tp.isOpen = true

/-- The machine's invariant. -/
structure State.Inv (s : State) : Prop where
  bounded : s.rx.Bounded s.cfg.val
  sequencer : s.SequencerOk
  host : s.HostOk

/-! ## Terms the statements use -/

/-- A transport that keeps its contract: open, and every read answers (60_exceptions R255, R258). -/
def Transport.reliable (t : Transport) : Bool :=
  t.isOpen && t.answering && t.line.all (fun e => decide (e ≠ .stopped))

/-- The block idle, no command on the port, reset not asserted. -/
structure State.AtRest (s : State) : Prop where
  idle : s.pc = .idle
  noCommand : s.port = none
  noReset : s.resetIn = false

/-- A step that goes on. -/
def continues : Step → Bool
  | .next _ => true
  | .fault _ => false
  | .refused _ => false

/-- A change made to the next state, where there is one. -/
def mapNext (f : State → State) : Step → Step
  | .next t => .next (f t)
  | .fault r => .fault r
  | .refused r => .refused r

/-- The bytes among a list of answers, in order. -/
def bytesOf : List Answer → List Byte
  | [] => []
  | .byte b :: as => b :: bytesOf as
  | .silence :: as => bytesOf as

/-- The two bytes from index `k` are the footer. -/
def footerAt (s : List Byte) (k : Nat) : Prop := memRead s k 2 = footerBytes

/-- One bit of one byte flipped (40_frame_codec R134). -/
def flipBit (s : List Byte) (i k : Nat) : List Byte := s.modify i (fun b => b ^^^ BitVec.twoPow 8 k)

/-- A frame written to the transport. -/
def Action.isTx : Action → Bool
  | .openTransport _ => false
  | .flushIn => false
  | .flushOut => false
  | .txWrite _ => true
  | .rxEvent _ => false
  | .result _ => false
  | .wait _ => false
  | .onConnected _ => false
  | .onTelemetry _ => false
  | .onLinkUp => false
  | .onLinkDown => false

/-- A read of the transport. -/
def Action.isRx : Action → Bool
  | .openTransport _ => false
  | .flushIn => false
  | .flushOut => false
  | .txWrite _ => false
  | .rxEvent _ => true
  | .result _ => false
  | .wait _ => false
  | .onConnected _ => false
  | .onTelemetry _ => false
  | .onLinkUp => false
  | .onLinkDown => false

/-- A flush of one of the transport's buffers. -/
def Action.isFlush : Action → Bool
  | .openTransport _ => false
  | .flushIn => true
  | .flushOut => true
  | .txWrite _ => false
  | .rxEvent _ => false
  | .result _ => false
  | .wait _ => false
  | .onConnected _ => false
  | .onTelemetry _ => false
  | .onLinkUp => false
  | .onLinkDown => false

/-- A result delivered. -/
def Action.isResult : Action → Bool
  | .openTransport _ => false
  | .flushIn => false
  | .flushOut => false
  | .txWrite _ => false
  | .rxEvent _ => false
  | .result _ => true
  | .wait _ => false
  | .onConnected _ => false
  | .onTelemetry _ => false
  | .onLinkUp => false
  | .onLinkDown => false

/-- A call of `open(path)`. -/
def Action.isOpen : Action → Bool
  | .openTransport _ => true
  | .flushIn => false
  | .flushOut => false
  | .txWrite _ => false
  | .rxEvent _ => false
  | .result _ => false
  | .wait _ => false
  | .onConnected _ => false
  | .onTelemetry _ => false
  | .onLinkUp => false
  | .onLinkDown => false

/-- A callback of the publishing collaborator (44_host_lifecycle R203). -/
def Action.isCallback : Action → Bool
  | .openTransport _ => false
  | .flushIn => false
  | .flushOut => false
  | .txWrite _ => false
  | .rxEvent _ => false
  | .result _ => false
  | .wait _ => false
  | .onConnected _ => true
  | .onTelemetry _ => true
  | .onLinkUp => true
  | .onLinkDown => true

end Sys2Proof.Machine
end

