-- ==== Sys2Proof/Certificates/Slice0/Obligations.lean ====
section
/-! DEFINITION. The statements for the provers. Each docstring names the rule of spec/ it formalises;
where a clause rests on an inference or decision the spec marks as its own, it says so. -/

section

open Sys2Proof Sys2Proof.Machine

/-! ## The codec -/

/-- 40_frame_codec R121, which the spec derives from R120: the serial accumulator gives the checksum
whatever the order of the bytes. -/
def Obligations.ChecksumSerialInAnyOrder : Prop :=
  ∀ s t : List Byte, s.Perm t → checksumSerial t = checksum s

/-- 40_frame_codec R124, which the spec derives from R123: the six properties of an encoded frame. -/
def Obligations.EncodedFrameLayout : Prop :=
  ∀ (d : Byte) (p : List Byte),
    let f := encodeFrame d p
    f.length = p.length + 6
    ∧ slice f 0 2 = [0x10, 0x02]
    ∧ memByte f 2 = some d
    ∧ slice f 3 (f.length - 3) = p
    ∧ memByte f (f.length - 3) = some (checksum (slice f 0 (f.length - 3)))
    ∧ last2 f = [0x10, 0x03]

/-- 40_frame_codec R133: the document's round trip, for every destination and every payload (that it
holds for every byte sequence is the spec's own derivation). -/
def Obligations.FrameCodecRoundTrip : Prop :=
  ∀ (d : Byte) (p : List Byte), decodeFrame (encodeFrame d p) = .ok { dest := d, payload := p }

/-- 40_frame_codec R134: a flip of any single bit of any byte of an encoded frame makes DECODE fail
with MalformedFrame (for every bit: the spec's own derivation). -/
def Obligations.SingleBitFlipRejected : Prop :=
  ∀ (d : Byte) (p : List Byte) (i k : Nat), i < (encodeFrame d p).length → k < 8 →
    ∃ cause, decodeFrame (flipBit (encodeFrame d p) i k) = .fail (.malformedFrame cause)

/-- 40_frame_codec R135: the length floor law. -/
def Obligations.ShortInputRejected : Prop :=
  ∀ raw : List Byte, raw.length < 5 → ∃ cause, decodeFrame raw = .fail (.malformedFrame cause)

/-- 40_frame_codec R125 to R129 and R132: DECODE accepts exactly the inputs that pass the four tests,
with the payload strictly between DEST and CHECKSUM, and fails with MalformedFrame on every other. -/
def Obligations.DecodeAcceptsExactly : Prop :=
  (∀ (raw : List Byte) (f : Frame),
    decodeFrame raw = .ok f ↔
      (5 ≤ raw.length ∧ memByte raw 0 = some 0x10 ∧ memByte raw 1 = some 0x02
        ∧ memByte raw (raw.length - 2) = some 0x10 ∧ memByte raw (raw.length - 1) = some 0x03
        ∧ memByte raw (raw.length - 3) = some (checksum (slice raw 0 (raw.length - 3)))
        ∧ memByte raw 2 = some f.dest ∧ f.payload = slice raw 3 (raw.length - 3)))
  ∧ (∀ (raw : List Byte) (e : Failure), decodeFrame raw = .fail e → ∃ cause, e = .malformedFrame cause)

/-- 40_frame_codec R130 (decision D13): the one five-byte input DECODE accepts. -/
def Obligations.FiveByteInputUnique : Prop :=
  ∀ (raw : List Byte) (f : Frame), raw.length = 5 →
    (decodeFrame raw = .ok f ↔
      raw = [0x10, 0x02, 0x12, 0x10, 0x03] ∧ f = { dest := 0x12, payload := [] })

/-! ## Command encodings -/

/-- 30_encoding R92 and R97: decoding the payload of a well-formed command gives it back, with its
operand at every value from 0 to 101. -/
def Obligations.CommandPayloadRoundTrip : Prop :=
  ∀ i : Instr, i.wellFormed = true → decode (encode i) = .ok i

/-- 30_encoding R97: which payloads are commands, and which opcode bytes the block can send. -/
def Obligations.PayloadDecoderTellsCommandsApart : Prop :=
  (∀ (bs : List Byte) (i : Instr),
    decode bs = .ok i ↔
      ((bs = [0x00] ∧ i = .probe) ∨ (bs = [0x14, 0x01] ∧ i = .getid)
        ∨ (∃ x : Byte, x.toNat ≤ 0x65 ∧ bs = [0x11, x] ∧ i = .setpwr x.toNat)))
  ∧ (∀ op : Byte, (∃ c : Command, (payloadOf c).head? = some op) ↔ op = 0x00 ∨ op = 0x11 ∨ op = 0x14)

/-- Sanity of the table words: each row's word, read from spec/opcode_table.json, decodes to its
command, and words outside the constraints do not decode. -/
def Obligations.TableWordsDecode : Prop :=
  decodeTableWord 8 0x00 = some .probe ∧ decodeTableWord 16 0x1401 = some .getid
  ∧ decodeTableWord 16 0x1100 = some (.setpwr 0) ∧ decodeTableWord 16 0x1165 = some (.setpwr 101)
  ∧ decodeTableWord 16 0x1166 = none ∧ decodeTableWord 16 0x1402 = none ∧ decodeTableWord 8 0x14 = none

/-- 20_memory R66, which the spec derives: the frame of each command, byte by byte. -/
def Obligations.CommandFramesByByte : Prop :=
  ∀ (cfg : Config) (p : Fin 102),
    commandFrame cfg .probe = [0x10, 0x02, cfg.dest, 0x00, 0x12 + cfg.dest, 0x10, 0x03]
    ∧ commandFrame cfg .getid = [0x10, 0x02, cfg.dest, 0x14, 0x01, 0x27 + cfg.dest, 0x10, 0x03]
    ∧ commandFrame cfg (.setpwr p)
        = [0x10, 0x02, cfg.dest, 0x11, BitVec.ofNat 8 p.val, 0x23 + cfg.dest + BitVec.ofNat 8 p.val, 0x10, 0x03]

/-- 70_reset R287, which the spec derives by enumeration: the one command frame that holds a footer
before its real one. -/
def Obligations.OneCommandFrameHoldsEarlyFooter : Prop :=
  ∀ (cfg : Config) (c : Command),
    (∃ k, k + 2 < (commandFrame cfg c).length ∧ footerAt (commandFrame cfg c) k)
      ↔ cfg.dest = 0xD0 ∧ c = .setpwr 16

/-! ## Response decoders -/

/-- 30_encoding R96 with 41_commands R144: the identity text keeps, in order, every printable byte after
the prefix, and drops every other byte. That the decoder succeeds for every payload, of 0 or 1 bytes
too, is the spec's decision D15 (log 22). -/
def Obligations.IdentityKeepsPrintableBytes : Prop :=
  ∀ (cfg : Config) (payload : List Byte),
    ∃ id, decodeIdentity cfg payload = .ok (.identity id)
      ∧ id.Sublist (payload.drop 1)
      ∧ (∀ b ∈ id, b ∈ cfg.printable)
      ∧ (∀ b ∈ cfg.printable, id.count b = (payload.drop 1).count b)

/-- 41_commands R147: the status decoder, its floor, its scalings, and that the power of the command
plays no part. -/
def Obligations.StatusFieldsDecoded : Prop :=
  ∀ (cfg : ValidConfig) (q : Fin 102) (payload : List Byte),
    (payload.length < cfg.val.statusMinPayloadLen →
      decodeResp cfg.val (.setpwr q) payload = .fail (.malformedFrame .statusShort))
    ∧ (cfg.val.statusMinPayloadLen ≤ payload.length →
      ∃ (st : Status) (a b c d : Byte),
        decodeResp cfg.val (.setpwr q) payload = .ok (.operationalStatus st)
        ∧ memByte payload cfg.val.offPhSp = some a ∧ memByte payload cfg.val.offPhCur = some b
        ∧ memByte payload cfg.val.offOutSp = some c ∧ memByte payload cfg.val.offOutCur = some d
        ∧ st.phSetpoint.value = (a.toNat : ℚ) / 10 ∧ st.phCurrent.value = (b.toNat : ℚ) / 10
        ∧ st.outputSetpoint = c.toNat * 10 ∧ st.outputCurrent = d.toNat * 10)

/-- 41_commands R150, R151 (decisions D14, D15, D34): a response variant comes only from its own
command, and a decoder fails only on a status, with MalformedFrame. -/
def Obligations.ResponsesPairedWithCommands : Prop :=
  ∀ (cfg : Config) (c : Command) (payload : List Byte),
    (∃ v, decodeResp cfg c payload = .ok v
      ∧ ((c = .probe ∧ v = .probeAck) ∨ (c = .getid ∧ ∃ id, v = .identity id)
        ∨ ((∃ q, c = .setpwr q) ∧ ∃ st, v = .operationalStatus st)))
    ∨ ((∃ q, c = .setpwr q) ∧ decodeResp cfg c payload = .fail (.malformedFrame .statusShort))

/-- 70_reset R286, which the spec derives: a well-formed frame with any DEST is decoded as the variant
the present command expects. -/
def Obligations.OutOfTurnFrameTakenAsExpected : Prop :=
  ∀ (cfg : Config) (d : Byte) (p : List Byte) (q : Fin 102),
    judge cfg .probe (.ok (encodeFrame d p)) = .ok .probeAck
    ∧ judge cfg .getid (.ok (encodeFrame d p))
        = .ok (.identity ((p.drop 1).filter (fun b => decide (b ∈ cfg.printable))))
    ∧ (cfg.statusMinPayloadLen ≤ p.length →
        ∃ st, judge cfg (.setpwr q) (.ok (encodeFrame d p)) = .ok (.operationalStatus st))

/-! ## The stream receiver -/

/-- 42_stream_receiver R175, which the spec derives: RECEIVE always ends within the sum of its three
budgets. -/
def Obligations.ReceiveEndsWithinBound : Prop :=
  ∀ (cfg : ValidConfig) (as : List Answer), receiveBound cfg.val ≤ as.length →
    ∃ r o k, receive cfg.val as = .ended r o k ∧ k ≤ receiveBound cfg.val

/-- 42_stream_receiver R174 (the document's timeout budget): a silent transport makes RECEIVE fail
after exactly TIMEOUT_LIMIT reports. -/
def Obligations.SilentTransportTimesOut : Prop :=
  ∀ (cfg : ValidConfig) (n : Nat),
    (n < cfg.val.timeoutLimit → ∃ r, receive cfg.val (List.replicate n .silence) = .pending r)
    ∧ (cfg.val.timeoutLimit ≤ n →
        ∃ r, receive cfg.val (List.replicate n .silence)
          = .ended r (.fail (.timeout cfg.val.timeoutLimit)) cfg.val.timeoutLimit)

/-- 42_stream_receiver R167 and R174 (decisions D9, D11): a Timeout comes exactly at the no-byte
report numbered TIMEOUT_LIMIT, bytes in between or not. -/
def Obligations.TimeoutCountsAllSilences : Prop :=
  ∀ (cfg : ValidConfig) (as : List Answer) (r : RxState) (n k : Nat),
    receive cfg.val as = .ended r (.fail (.timeout n)) k →
      n = cfg.val.timeoutLimit ∧ (as.take k).count .silence = cfg.val.timeoutLimit
      ∧ 0 < k ∧ as[k - 1]? = some .silence

/-- 42_stream_receiver R173, which the spec derives: a valid frame behind at most NOISE_BOUND
non-marker bytes is received, with fewer than TIMEOUT_LIMIT silences anywhere; behind more, RECEIVE
fails at the discard numbered NOISE_BOUND + 1. -/
def Obligations.ResynchronisesAfterNoise : Prop :=
  ∀ (cfg : ValidConfig) (noise : List Byte) (d : Byte) (p : List Byte) (as : List Answer),
    marker ∉ noise →
    bytesOf as = noise ++ encodeFrame d p →
    as.count .silence < cfg.val.timeoutLimit →
    (encodeFrame d p).length ≤ cfg.val.maxFrameLen →
    (∀ k, k + 2 < (encodeFrame d p).length → ¬ footerAt (encodeFrame d p) k) →
    (noise.length ≤ cfg.val.noiseBound →
      ∃ r k, receive cfg.val as = .ended r (.ok (encodeFrame d p)) k
        ∧ decodeFrame (encodeFrame d p) = .ok { dest := d, payload := p })
    ∧ (cfg.val.noiseBound < noise.length →
      ∃ r k, receive cfg.val as = .ended r (.fail (.malformedFrame .noiseOverrun)) k
        ∧ bytesOf (as.take k) = noise.take (cfg.val.noiseBound + 1))

/-- 42_stream_receiver R168 and R172, which the spec derives: what RECEIVE returns is everything from
the first marker byte on, and it ends at the first footer after it. -/
def Obligations.ReceivedFrameEndsAtFirstFooter : Prop :=
  ∀ (cfg : ValidConfig) (as : List Answer) (r : RxState) (raw : List Byte) (k : Nat),
    receive cfg.val as = .ended r (.ok raw) k →
      RawFrame cfg.val raw
      ∧ (∃ noise, marker ∉ noise ∧ noise.length ≤ cfg.val.noiseBound
          ∧ bytesOf (as.take k) = noise ++ raw)
      ∧ (∀ j, j + 2 < raw.length → ¬ footerAt raw j)
      ∧ (as.take k).count .silence < cfg.val.timeoutLimit

/-- 70_reset R284, which the spec derives: a frame that holds a footer early is cut short there. -/
def Obligations.EarlyFooterCutsTheFrame : Prop :=
  ∀ (cfg : ValidConfig) (f rest : List Byte) (j : Nat),
    f.head? = some marker → j + 2 ≤ f.length → j + 2 ≤ cfg.val.maxFrameLen →
    footerAt f j → (∀ k, k < j → ¬ footerAt f k) →
    ∃ r, receive cfg.val ((f ++ rest).map .byte) = .ended r (.ok (f.take (j + 2))) (j + 2)

/-- 42_stream_receiver R166 and 60_exceptions R242 (decision D8): the byte that overruns the maximum
length fails, whether or not it completes a footer. -/
def Obligations.LengthTestBeforeFooterTest : Prop :=
  ∀ (cfg : Config) (r : RxState) (b : Byte), r.unsynced = false → r.buf.length = cfg.maxFrameLen →
    rxStep cfg r (.byte b)
      = .done { r with buf := r.buf ++ [b] } (.fail (.malformedFrame .frameOverrun))

/-! ## Taking and refusing commands -/

/-- 41_commands R141, R143, R145 and 43_transaction_driver R182: at IDLE each command is latched, its
frame encoded with the configured DEST (7, 8 and 8 bytes), and the sequencer started; nothing else
changes. -/
def Obligations.CommandsAcceptedAtIdle : Prop :=
  ∀ s : State, s.pc = .idle →
    (exec .probe s = .next { s with cmd := some .probe, pc := .preFlush,
                                    txFrame := some (encodeFrame s.cfg.val.dest [0x00]) }
      ∧ (encodeFrame s.cfg.val.dest [0x00]).length = 7)
    ∧ (exec .getid s = .next { s with cmd := some .getid, pc := .preFlush,
                                      txFrame := some (encodeFrame s.cfg.val.dest [0x14, 0x01]) }
      ∧ (encodeFrame s.cfg.val.dest [0x14, 0x01]).length = 8)
    ∧ (∀ p : Fin 102,
        exec (.setpwr p.val) s = .next { s with
          cmd := some (.setpwr p), pc := .preFlush,
          txFrame := some (encodeFrame s.cfg.val.dest [0x11, BitVec.ofNat 8 p.val]) }
        ∧ (encodeFrame s.cfg.val.dest [0x11, BitVec.ofNat 8 p.val]).length = 8)

/-- 41_commands R146 and 43_transaction_driver R181 (a) (decision D20): a power outside 0 to 101 is
refused at the port; only the result port and the trace change. -/
def Obligations.PowerOutOfRangeRefused : Prop :=
  ∀ (s : State) (p : Int), s.pc = .idle → (p < 0 ∨ 101 < p) →
    exec (.setpwr p) s = .next { s with
      resultPort := some (.fail (.contractViolation .powerRange)),
      trace := s.trace ++ [.result (.fail (.contractViolation .powerRange))] }

/-- 43_transaction_driver R181 (c) and 20_memory R86 (decision D27): a command offered while the block
is busy has no effect of any kind and is not remembered. -/
def Obligations.BusyBlockIgnoresOffers : Prop :=
  ∀ (s : State) (i : Instr), s.pc ≠ .idle → s.resetIn = false →
    step { s with port := some i } = step { s with port := none }

/-- The frame of every command, in every phase: what a step of the block leaves unchanged. The one
byte a step stores lies at address len(buf) (00_scope R18); SEND empties the buffer (R190). In RECEIVE
each kind of answer changes its own receiver register and no other (10_state R25, R26;
42_stream_receiver R164 to R167, R175). -/
def Obligations.CommandStepFrame : Prop :=
  ∀ (i : Instr) (s t : State), exec i s = .next t →
    (t.cfg = s.cfg ∧ t.host = s.host ∧ t.port = s.port ∧ t.resetIn = s.resetIn)
    ∧ (s.pc = .idle → t.rx = s.rx ∧ t.res = s.res ∧ t.tp = s.tp)
    ∧ (s.pc ≠ .idle → t.cmd = s.cmd ∧ t.txFrame = s.txFrame)
    ∧ (s.pc ≠ .receive → s.pc ≠ .validate → s.pc ≠ .dispatch → t.res = s.res)
    ∧ (s.pc ≠ .idle → s.pc ≠ .postFlush → t.resultPort = s.resultPort)
    ∧ (s.pc ≠ .send → s.pc ≠ .receive → t.rx = s.rx)
    ∧ (s.pc = .validate ∨ s.pc = .dispatch → t.tp = s.tp ∧ t.trace = s.trace)
    ∧ (s.pc = .send → t.rx = RxState.init)
    ∧ (s.pc = .receive → (s.rx.unsynced = true → s.rx.buf = []) →
        ∀ a, a ≠ s.rx.buf.length → memByte t.rx.buf a = memByte s.rx.buf a)
    ∧ (s.pc = .receive →
        (∃ a u, s.tp.rxEvent = some (a, u) ∧ t.tp = u ∧ t.trace = s.trace ++ [.rxEvent a]
          ∧ (a = .silence → t.rx = { s.rx with timeoutCnt := s.rx.timeoutCnt + 1 })
          ∧ (∀ b, a = .byte b → s.rx.unsynced = true → b ≠ marker →
              t.rx = { s.rx with discardCnt := s.rx.discardCnt + 1 })
          ∧ (a = .byte marker → s.rx.unsynced = true →
              t.rx = { s.rx with unsynced := false, buf := [marker] })
          ∧ (∀ b, a = .byte b → s.rx.unsynced = false →
              t.rx = { s.rx with buf := s.rx.buf ++ [b] }))
        ∧ (s.rx.unsynced = false → t.rx.unsynced = false ∧ t.rx.discardCnt = s.rx.discardCnt))

/-- When the bytes of a table word decode to a command and it is offered, the next step is exec of it
on the state with the event taken off the port, once the line has moved (bytes may arrive in every step,
log 6); so is the step of every state with a command on its port (43_transaction_driver R181,
20_memory R86). What the line's move writes stands in the third clause. -/
def Obligations.StepRunsOfferedCommand : Prop :=
  (∀ (s : State) (i : Instr), s.resetIn = false → s.port = some i →
    step s = exec i { s.lineMoves with port := none })
  ∧ (∀ (s : State) (nbits w : Nat) (i : Instr), decodeTableWord nbits w = some i →
    step (s.withFetchWord nbits w)
      = exec i { s with port := none, pc := .idle, resetIn := false, tp := s.tp.between })
  ∧ (∀ s : State, s.lineMoves = { s with tp := s.lineMoves.tp }
      ∧ s.lineMoves.tp.isOpen = s.tp.isOpen ∧ s.tp.tin <+: s.lineMoves.tp.tin
      ∧ (s.pc ≠ .idle → s.lineMoves.tp.tout <:+ s.tp.tout))

/-! ## The phases -/

/-- 43_transaction_driver R190, which the spec derives: the busy rows of the transition table, each with
its condition, and no other transition. The rows of IDLE are `CommandsAcceptedAtIdle` and
`PowerOutOfRangeRefused`. -/
def Obligations.PhaseTransitions : Prop :=
  ∀ s t : State, s.pc ≠ .idle → sequence s = .next t →
    (s.pc = .preFlush ∧ t.pc = .send)
    ∨ (s.pc = .send ∧ t.pc = .receive)
    ∨ (s.pc = .receive ∧ ∃ a u, s.tp.rxEvent = some (a, u)
        ∧ ((t.pc = .receive ∧ ∃ r, rxStep s.cfg.val s.rx a = .more r)
          ∨ (t.pc = .validate ∧ ∃ r raw, rxStep s.cfg.val s.rx a = .done r (.ok raw))
          ∨ (t.pc = .postFlush
              ∧ ∃ r e, rxStep s.cfg.val s.rx a = .done r (.fail e) ∧ t.res = some (.fail e))))
    ∨ (s.pc = .validate
        ∧ ((t.pc = .dispatch ∧ ∃ f, decodeFrame s.rx.buf = .ok f)
          ∨ (t.pc = .postFlush ∧ ∃ e, decodeFrame s.rx.buf = .fail e ∧ t.res = some (.fail e))))
    ∨ (s.pc = .dispatch ∧ t.pc = .postFlush ∧ ∃ r, t.res = some r)
    ∨ (s.pc = .postFlush ∧ t.pc = .idle)

/-- 43_transaction_driver R185: in RECEIVE, on an open transport that answers, a step consumes exactly
one answer and runs one arm of the receiver on it: it goes on, or hands the buffer to VALIDATE, or makes
the receiver's failure the result, verbatim, with POST_FLUSH next. That every answer is one step is the
model's granularity (log 3). -/
def Obligations.ReceiveRunsOneArm : Prop :=
  ∀ (s : State) (a : Answer) (u : Transport), s.pc = .receive → s.tp.isOpen = true →
    s.tp.rxEvent = some (a, u) →
    (∀ r, rxStep s.cfg.val s.rx a = .more r →
      sequence s = .next { s with rx := r, tp := u, trace := s.trace ++ [.rxEvent a] })
    ∧ (∀ r raw, rxStep s.cfg.val s.rx a = .done r (.ok raw) →
      raw = r.buf
      ∧ sequence s = .next { s with rx := r, pc := .validate, tp := u,
                                    trace := s.trace ++ [.rxEvent a] })
    ∧ (∀ r e, rxStep s.cfg.val s.rx a = .done r (.fail e) →
      sequence s = .next { s with rx := r, res := some (.fail e), pc := .postFlush, tp := u,
                                  trace := s.trace ++ [.rxEvent a] })

/-- 43_transaction_driver R183 and R184 (decisions D21, D22), as two steps of the machine: both buffers
are emptied before the one write of the whole latched frame, which starts the receiver afresh (R162,
D26); what then waits in the input buffer is what arrived after the flush (20_memory R81, R83). -/
def Obligations.FlushThenWrite : Prop :=
  ∀ (s : State) (f : List Byte), s.pc = .preFlush → s.port = none → s.resetIn = false →
    s.tp.isOpen = true → s.txFrame = some f →
    ∃ t u, step s = .next t ∧ step t = .next u
      ∧ t.tp.tin = [] ∧ t.tp.tout = [] ∧ t.trace = s.trace ++ [.flushIn, .flushOut]
      ∧ u.pc = .receive ∧ u.rx = RxState.init ∧ u.tp.tin = t.tp.arrive.tin ∧ u.tp.tout = f
      ∧ u.trace = s.trace ++ [.flushIn, .flushOut, .txWrite f]
      ∧ u.cmd = s.cmd ∧ u.txFrame = s.txFrame ∧ u.res = s.res ∧ u.host = s.host ∧ u.cfg = s.cfg

/-- 43_transaction_driver R186: DECODE of the buffer, then DISPATCH or the failure with POST_FLUSH. -/
def Obligations.ValidateRunsDecode : Prop :=
  ∀ s : State, s.pc = .validate →
    (∀ f, decodeFrame s.rx.buf = .ok f → sequence s = .next { s with pc := .dispatch })
    ∧ (∀ e, decodeFrame s.rx.buf = .fail e →
        (∃ cause, e = .malformedFrame cause)
        ∧ sequence s = .next { s with res := some (.fail e), pc := .postFlush })

/-- 43_transaction_driver R187: the decoder is the latched command's; either way POST_FLUSH follows. -/
def Obligations.DispatchDecodesByLatchedCommand : Prop :=
  ∀ (s : State) (c : Command), s.pc = .dispatch → s.cmd = some c →
    sequence s = .next { s with res := some (decodeResp s.cfg.val c (framePayload s.rx.buf)),
                                pc := .postFlush }
    ∧ (∀ e, decodeResp s.cfg.val c (framePayload s.rx.buf) = .fail e →
        ∃ cause, e = .malformedFrame cause)

/-- 43_transaction_driver R189, with the flushes of R188 (decision D21): the result is delivered once,
and the block is ready for the next command. -/
def Obligations.CompletionDeliversResult : Prop :=
  ∀ (s : State) (r : Result), s.pc = .postFlush → s.tp.isOpen = true → s.res = some r →
    sequence s = .next { s with
      pc := .idle, resultPort := some r, tp := { s.tp with tin := [], tout := [] },
      trace := s.trace ++ [.flushIn, .flushOut, .result r] }

/-- 20_memory R81, which the spec derives: in every step of the machine, only SEND writes to the
transport, only RECEIVE reads it, and only the two flush phases flush it; bytes that reach the input
buffer while the block is in another phase stay there, in order, until a flush or the next RECEIVE. -/
def Obligations.HalfDuplex : Prop :=
  ∀ s t : State, step s = .next t →
    (∃ acts, t.trace = s.trace ++ acts
      ∧ ((∃ a ∈ acts, a.isTx = true) → s.pc = .send)
      ∧ ((∃ a ∈ acts, a.isRx = true) → s.pc = .receive)
      ∧ ((∃ a ∈ acts, a.isFlush = true) → s.pc = .preFlush ∨ s.pc = .postFlush))
    ∧ (s.resetIn = false → s.pc ≠ .preFlush → s.pc ≠ .receive → s.pc ≠ .postFlush →
        t.tp.tin = s.tp.arrive.tin ∧ s.tp.tin <+: t.tp.tin
        ∧ ∀ bs rest, s.tp.line = .arrive bs :: rest → t.tp.tin = s.tp.tin ++ bs)

/-! ## Whole transactions -/

/-- 43_transaction_driver R180, R191 and R195 (the spec derives R191 and R195): from rest, with a
transport that keeps its contract, an accepted command runs to its result: the steps of the machine
are exactly EXECUTE on the answers drawn, in result, actions and registers. That one phase or one answer
is one step is the model's granularity (log 3). -/
def Obligations.TransactionRefinesExecute : Prop :=
  ∀ (s : State) (i : Instr) (c : Command), s.AtRest → s.tp.reliable = true → taken i = some c →
    ∃ as u tr s1 m t,
      Transport.answers (receiveBound s.cfg.val) (s.tp.atReceive (commandFrame s.cfg.val c)) = some (as, u)
      ∧ execute s.cfg.val i as = some tr
      ∧ exec i s = .next s1
      ∧ Host.Core.run Sys2Proof.core m s1 = .next t
      ∧ t.pc = .idle ∧ t.cmd = some c ∧ t.txFrame = some (commandFrame s.cfg.val c)
      ∧ t.res = some tr.result ∧ t.resultPort = some tr.result
      ∧ t.trace = s.trace ++ tr.actions
      ∧ t.tp.tin = [] ∧ t.tp.tout = []
      ∧ t.cfg = s.cfg ∧ t.host = s.host ∧ t.port = none

/-- 20_memory R88, which the spec derives: the result and the actions of a transaction depend on the
command, the configuration and the answers drawn, and on nothing an earlier transaction left. -/
def Obligations.ResultIndependentOfHistory : Prop :=
  ∀ (s s' : State) (i : Instr) (c : Command) (as : List Answer) (u u' : Transport),
    s.AtRest → s'.AtRest → s.tp.reliable = true → s'.tp.reliable = true → s.cfg = s'.cfg →
    taken i = some c →
    Transport.answers (receiveBound s.cfg.val) (s.tp.atReceive (commandFrame s.cfg.val c)) = some (as, u) →
    Transport.answers (receiveBound s.cfg.val) (s'.tp.atReceive (commandFrame s.cfg.val c)) = some (as, u') →
    ∃ s1 s1' m t t' acts,
      exec i s = .next s1 ∧ exec i s' = .next s1'
      ∧ Host.Core.run Sys2Proof.core m s1 = .next t ∧ Host.Core.run Sys2Proof.core m s1' = .next t'
      ∧ t.pc = .idle ∧ t'.pc = .idle ∧ t.res = t'.res ∧ t.resultPort = t'.resultPort
      ∧ t.rx = t'.rx ∧ t.trace = s.trace ++ acts ∧ t'.trace = s'.trace ++ acts

/-- 43_transaction_driver R193, which the spec derives: what an accepted command's transaction
delivers is one of the results its command can have; BAD_FOOTER is never among them. -/
def Obligations.DeliveredResultIsAllowed : Prop :=
  ∀ s t : State, s.Inv → s.resetIn = false → s.pc = .postFlush → step s = .next t →
    ∃ c r, t.cmd = some c ∧ t.resultPort = some r ∧ t.res = some r
      ∧ resultAllowed t.cfg.val c r = true ∧ r ≠ .fail (.malformedFrame .badFooter)

/-! ## Invariants of the machine -/

/-- The invariant of Safety.lean (10_state R22 to R29, R36 to R38, R41; 43_transaction_driver R193;
44_host_lifecycle R206): every step keeps it. -/
def Obligations.EveryStepKeepsInv : Prop :=
  ∀ s t : State, s.Inv → step s = .next t → t.Inv

/-- The state after reset meets the invariant (10_state R42). -/
def Obligations.ResetMeetsInv : Prop := State.reset.Inv

/-- 00_scope R16: a parameter never changes after construction, an invalid configuration is rejected
before it, and the machine has a valid one in every state (log 2). Which configurations are invalid is
partly the model's choice: R16 names R10, R12 and R13, and the model counts R14's condition on PRINTABLE
(in its rising-list form, log 23) and R283's POLL_PERIOD >= QUIESCENCE too (log 35). -/
def Obligations.ConfigurationIsFixed : Prop :=
  (∀ s t : State, step s = .next t → t.cfg = s.cfg)
  ∧ (∀ s : State, s.cfg.val.Valid)
  ∧ (∀ c : Config, (¬ c.Valid → construct c = .fail .configInvalid)
      ∧ (∀ h : c.Valid, construct c = .ok ⟨c, h⟩))

/-- 44_host_lifecycle R202: the block neither reads nor writes the host's registers, and a step of the
machine changes them only where the lifecycle itself acts (or reset does). -/
def Obligations.BlockIgnoresHostRegisters : Prop :=
  (∀ (i : Instr) (s : State) (h : HostState),
    exec i { s with host := h } = mapNext (fun t => { t with host := h }) (exec i s)
    ∧ sequence { s with host := h } = mapNext (fun t => { t with host := h }) (sequence s))
  ∧ (∀ s t : State, step s = .next t → s.resetIn = false → (s.pc ≠ .idle ∨ s.port ≠ none) →
      t.host = s.host)

/-- 60_exceptions R236, 42_stream_receiver R176 and 70_reset R276: the machine stops only in RECEIVE
when the transport never answers, and only in a phase that acts on a transport that is not open
(the Lean names of the stops are the model's, logs 9 and 10; the script is, log 6). -/
def Obligations.StopsOnlyOnBrokenTransport : Prop :=
  (∀ (s : State) (e : Fault), step s = .fault e ↔
    (s.resetIn = false ∧ s.pc = .receive ∧ s.tp.isOpen = true
      ∧ (s.tp.answering = false ∨ ∃ rest, s.tp.line = .stopped :: rest)))
  ∧ (∀ (s : State) (e : Refusal), step s = .refused e ↔
    (e = .transportNotOpen ∧ s.resetIn = false ∧ s.tp.isOpen = false
      ∧ (s.pc = .preFlush ∨ s.pc = .send ∨ s.pc = .receive ∨ s.pc = .postFlush)))

/-! ## The lifecycle -/

/-- 44_host_lifecycle R205, with the entry of R204: from Disconnected the host starts an attempt with
PROBE; a successful PROBE leads, after QUIESCENCE, to GETID; a failed one does not. -/
def Obligations.AttemptIsProbeThenGetid : Prop :=
  ∀ s : State, s.AtRest →
    (s.host.phase = .start →
      step s = .next { s.lineMoves with
        host := { s.host with connState := .connecting, attemptCount := 0, phase := .awaitProbe },
        port := some .probe, resultPort := none })
    ∧ (s.host.phase = .awaitProbe → s.resultPort = some (.ok .probeAck) →
      ∃ t, step s = .next t ∧ step t = .next { s.lineMoves.lineMoves with
        host := { s.host with phase := .awaitIdentity }, port := some .getid, resultPort := none,
        trace := s.trace ++ [.wait s.cfg.val.quiescence] })
    ∧ (∀ e, s.host.phase = .awaitProbe → s.resultPort = some (.fail e) →
      ∃ t, step s = .next t ∧ t.port = none ∧ (t.host.phase = .gapRetry ∨ t.host.phase = .stopped)
        ∧ (∀ u, step t = .next u → u.port ≠ some .getid))

/-- 44_host_lifecycle R206 (decision D39): a failed attempt counts once, whichever transaction failed;
at a cap that is set the engine stops in CantConnect, otherwise PROBE is offered again after
QUIESCENCE. -/
def Obligations.FailedAttemptCountsOnce : Prop :=
  ∀ (s : State) (e : Failure), s.AtRest → s.resultPort = some (.fail e) →
    (s.host.phase = .awaitProbe ∨ s.host.phase = .awaitIdentity) →
    (s.cfg.val.attemptCap ≠ 0 → s.host.attemptCount + 1 = s.cfg.val.attemptCap →
      step s = .next { s.lineMoves with
        host := { s.host with
          attemptCount := s.host.attemptCount + 1, connState := .cantConnect, phase := .stopped },
        resultPort := none })
    ∧ (s.cfg.val.attemptCap = 0 ∨ s.host.attemptCount + 1 ≠ s.cfg.val.attemptCap →
      ∃ t, step s = .next t ∧ step t = .next { s.lineMoves.lineMoves with
        host := { s.host with attemptCount := s.host.attemptCount + 1, phase := .awaitProbe },
        port := some .probe, resultPort := none,
        trace := s.trace ++ [.wait s.cfg.val.quiescence] })

/-- 44_host_lifecycle R207: both succeeded, so the counters are cleared, the state is Connected and
the identity is handed over exactly once, the empty one too. -/
def Obligations.IdentityConnects : Prop :=
  ∀ (s : State) (id : List Byte), s.AtRest → s.host.phase = .awaitIdentity →
    s.resultPort = some (.ok (.identity id)) →
    step s = .next { s.lineMoves with
      host := { s.host with
        attemptCount := 0, failureStreak := 0, connState := .connected, phase := .gapPoll },
      resultPort := none, trace := s.trace ++ [.onConnected id] }

/-- 44_host_lifecycle R209, which the spec derives, for every cap that is set: a transport that always
times out leads to CantConnect after exactly ATTEMPT_CAP failed PROBEs, and no other frame is ever
written. That nothing arrives is said by the line's script (log 6), one entry for each step: per attempt
the offer, its acceptance, the flush, the write, TIMEOUT_LIMIT reads, the delivery and the host's count. -/
def Obligations.CapStopsTheEngine : Prop :=
  ∀ (s : State) (n : Nat), s.AtRest → s.host.phase = .start → s.cfg.val.attemptCap ≠ 0 →
    s.tp.isOpen = true → s.tp.answering = true → s.tp.line = List.replicate n (.arrive []) →
    s.cfg.val.attemptCap * (s.cfg.val.timeoutLimit + 6) ≤ n →
    ∃ m t acts, Host.Core.run Sys2Proof.core m s = .next t
      ∧ t.host.connState = .cantConnect ∧ t.host.attemptCount = s.cfg.val.attemptCap
      ∧ t.res = some (.fail (.timeout s.cfg.val.timeoutLimit))
      ∧ t.trace = s.trace ++ acts
      ∧ acts.filter Action.isTx
          = List.replicate s.cfg.val.attemptCap (.txWrite (commandFrame s.cfg.val .probe))
      ∧ acts.countP Action.isRx = s.cfg.val.attemptCap * s.cfg.val.timeoutLimit
      ∧ acts.all (fun a => !a.isCallback) = true

/-- 44_host_lifecycle R208: in CantConnect the host offers no command and calls no callback, and only
reset leaves the state. -/
def Obligations.CantConnectIsTerminal : Prop :=
  ∀ s t : State, s.Inv → s.host.connState = .cantConnect → s.resetIn = false → step s = .next t →
    t.host = s.host ∧ t.port = none
    ∧ ∃ acts, t.trace = s.trace ++ acts ∧ acts.all (fun a => !a.isCallback) = true

/-- 44_host_lifecycle R214: nothing but reset leaves Connected, whatever the streak: no PROBE or GETID
is offered, the cadence stays POLL_PERIOD, and the lifecycle never stops. -/
def Obligations.ConnectedStaysConnected : Prop :=
  ∀ s t : State, s.Inv → s.host.connState = .connected → s.resetIn = false → step s = .next t →
    t.host.connState = .connected ∧ t.host.phase ≠ .stopped
    ∧ (∀ i, t.port = some i → ∃ p, i = .setpwr p)
    ∧ ∃ acts, t.trace = s.trace ++ acts ∧ ∀ d, Action.wait d ∈ acts → d = s.cfg.val.pollPeriod

/-- 44_host_lifecycle R210 (decision D31): a poll offers SETPWR with the value current_power has at
that moment, once per POLL_PERIOD; the value is the one the script presents next, and a free value where
the script is empty (log 12). -/
def Obligations.PollOffersCurrentPower : Prop :=
  ∀ s : State, s.AtRest → s.host.phase = .gapPoll →
    step s = .next { s.lineMoves with
      host := { s.host.samplePower with phase := .awaitPoll },
      port := some (.setpwr s.host.samplePower.currentPower), resultPort := none,
      trace := s.trace ++ [.wait s.cfg.val.pollPeriod] }
    ∧ (∀ p rest, s.host.powers = p :: rest →
        s.host.samplePower = { s.host with currentPower := p, powers := rest })
    ∧ (s.host.powers = [] →
        s.host.samplePower = { s.host with currentPower := Config.freePower s.host.draws,
                                           draws := s.host.draws + 1 })

/-- 44_host_lifecycle R211 (decision D37): a successful poll clears the streak, reports the telemetry
and then link-up. -/
def Obligations.SuccessfulPollReports : Prop :=
  ∀ (s : State) (st : Status), s.AtRest → s.host.phase = .awaitPoll →
    s.resultPort = some (.ok (.operationalStatus st)) →
    step s = .next { s.lineMoves with
      host := { s.host with failureStreak := 0, phase := .gapPoll },
      resultPort := none, trace := s.trace ++ [.onTelemetry st, .onLinkUp] }

/-- 44_host_lifecycle R212: a failed poll counts, and reports link-down exactly when the streak gets
to STREAK_THRESHOLD + 1; conn_state stays as it is. -/
def Obligations.FailedPollCounts : Prop :=
  ∀ (s : State) (e : Failure), s.AtRest → s.host.phase = .awaitPoll →
    s.resultPort = some (.fail e) →
    step s = .next { s.lineMoves with
      host := { s.host with failureStreak := s.host.failureStreak + 1, phase := .gapPoll },
      resultPort := none,
      trace := s.trace ++
        (if s.host.failureStreak + 1 = s.cfg.val.streakThreshold + 1 then [.onLinkDown] else []) }

/-- 44_host_lifecycle R213, which the spec derives: in a run of consecutive failed polls after a
success, link-down is reported once, and only when the run exceeds the threshold; a success then
clears the streak and reports link-up. -/
def Obligations.LinkDownOncePerStreak : Prop :=
  ∀ (s : State) (es : List Failure) (st : Status), s.host.failureStreak = 0 →
    let t := es.foldl (fun s e => pollResult s (.fail e)) s
    t.trace.count .onLinkDown
      = s.trace.count .onLinkDown + (if s.cfg.val.streakThreshold < es.length then 1 else 0)
    ∧ t.host.failureStreak = es.length
    ∧ (pollResult t (.ok (.operationalStatus st))).host.failureStreak = 0
    ∧ (pollResult t (.ok (.operationalStatus st))).trace = t.trace ++ [.onTelemetry st, .onLinkUp]

/-- 44_host_lifecycle R213, which the spec derives, over the steps of the machine: from rest before a poll
with streak 0, as after a success, every run without a further success reports link-down exactly once if
the streak exceeds the threshold and not at all otherwise; and at rest before another poll the streak is
the number of results delivered since, every one of them a failed poll's. -/
def Obligations.LinkDownOncePerRunOfFailedPolls : Prop :=
  ∀ (s t : State) (m : Nat), s.AtRest → s.host.phase = .gapPoll → s.host.failureStreak = 0 →
    Host.Core.run Sys2Proof.core m s = .next t →
    ∃ acts, t.trace = s.trace ++ acts
      ∧ (.onLinkUp ∉ acts →
          acts.count .onLinkDown = (if s.cfg.val.streakThreshold < t.host.failureStreak then 1 else 0)
          ∧ (t.host.phase = .gapPoll → acts.countP Action.isResult = t.host.failureStreak))

/-- 44_host_lifecycle R206 and 60_exceptions R234: while connecting, Timeout and MalformedFrame are both
classified as NoResponse and every other failure stays what it is, so every failure a transaction of the
connect sequence can deliver is NoResponse. 60_exceptions R235 (decision D23, log 27): the numeric codes,
and that they tell the kinds, the causes, and success from failure, apart. -/
def Obligations.FailureClassesAndCodes : Prop :=
  ((∀ n : Nat, connectClass (.timeout n) = .noResponse)
    ∧ (∀ cause : Cause, connectClass (.malformedFrame cause) = .noResponse)
    ∧ (∀ f : Failure, f.kind ≠ .timeout → f.kind ≠ .malformedFrame → connectClass f = f)
    ∧ (∀ (cfg : Config) (c : Command) (f : Failure), resultAllowed cfg c (.fail f) = true →
        connectClass f = .noResponse))
  ∧ (FailureKind.code .malformedFrame = 1 ∧ FailureKind.code .timeout = 2
    ∧ FailureKind.code .contractViolation = 3 ∧ FailureKind.code .noResponse = 4
    ∧ FailureKind.code .cantConnect = 5 ∧ FailureKind.code .configInvalid = 6)
  ∧ (Cause.code .noiseOverrun = 1 ∧ Cause.code .frameOverrun = 2 ∧ Cause.code .lenFloor = 3
    ∧ Cause.code .badHeader = 4 ∧ Cause.code .badFooter = 5 ∧ Cause.code .badChecksum = 6
    ∧ Cause.code .statusShort = 7 ∧ Cause.code .powerRange = 8 ∧ Cause.code .variantMismatch = 9)
  ∧ (∀ k k' : FailureKind, k.code = k'.code → k = k')
  ∧ (∀ c c' : Cause, c.code = c'.code → c = c')
  ∧ (∀ r : Result, (∀ v, r = .ok v → r.code = 0) ∧ (∀ f, r = .fail f → r.code = f.kind.code)
      ∧ (r.code = 0 ↔ ∃ v, r = .ok v))

/-- 44_host_lifecycle R215 (decision D38): every command the lifecycle offers after the first comes
behind a delay of at least QUIESCENCE (the delay is a mark in the trace, log 14). -/
def Obligations.OffersKeepTheirDistance : Prop :=
  ∀ (s t : State) (i : Instr), s.AtRest → s.host.phase ≠ .start → step s = .next t → t.port = some i →
    ∃ d, s.cfg.val.quiescence ≤ d ∧ t.trace = s.trace ++ [.wait d]

/-! ## Reset and the transport -/

/-- 70_reset R270, R271, R272 and 10_state R42 (decision D26): reset puts every register at its reset
value, keeps the configuration, flushes nothing at IDLE (there the transport changes only by the line's
own move, log 6), neither opens nor closes it, delivers nothing and calls nothing. -/
def Obligations.ResetInputRestores : Prop :=
  ∀ s : State, s.resetIn = true → ∃ t, step s = .next t
    ∧ t.cfg = s.cfg ∧ t.pc = .idle ∧ t.cmd = none ∧ t.txFrame = none ∧ t.res = none
    ∧ t.rx.unsynced = true ∧ t.rx.discardCnt = 0 ∧ t.rx.timeoutCnt = 0 ∧ t.rx.buf = []
    ∧ t.host.connState = .disconnected ∧ t.host.attemptCount = 0 ∧ t.host.failureStreak = 0
    ∧ t.resultPort = none ∧ t.trace = s.trace ∧ (s.pc = .idle → t.tp = s.tp.between)
    ∧ t.tp.isOpen = s.tp.isOpen

/-- 10_state R42 (decision D26): the registers after construction. -/
def Obligations.ResetStateValues : Prop :=
  State.reset.pc = .idle ∧ State.reset.cmd = none ∧ State.reset.txFrame = none
  ∧ State.reset.rx.unsynced = true ∧ State.reset.rx.discardCnt = 0 ∧ State.reset.rx.timeoutCnt = 0
  ∧ State.reset.rx.buf = [] ∧ State.reset.res = none ∧ State.reset.host.connState = .disconnected
  ∧ State.reset.host.attemptCount = 0 ∧ State.reset.host.failureStreak = 0

/-- 60_exceptions R258: a transport that keeps its contract returns the oldest byte of the input buffer
and removes it, or reports no byte when there is none; a read changes nothing else of it. -/
def Obligations.ReadTakesOldestByte : Prop :=
  ∀ t : Transport, t.answering = true →
    (∀ b q, t.tin = b :: q → t.rxEvent = some (.byte b, { t with tin := q }))
    ∧ (t.tin = [] → t.rxEvent = some (.silence, t))

/-- 60_exceptions R255 and R256, 70_reset R276: `open(path)` is the host's call, made once, with
SERIAL_PATH, before the first command; no step of the block makes it, and past it the transport is open.
That the call is a step of its own, and its place in the lifecycle, are the model's (logs 10, 13). -/
def Obligations.HostOpensTransportOnce : Prop :=
  (∀ s : State, s.AtRest → s.host.phase = .opening →
    step s = .next { s.lineMoves with
      tp := { s.tp.between with isOpen := true }, host := { s.host with phase := .start },
      trace := s.trace ++ [.openTransport s.cfg.val.serialPath] })
  ∧ (∀ s t : State, s.Inv → step s = .next t →
      (s.host.phase ≠ .opening → t.host.phase ≠ .opening ∧ t.tp.isOpen = true)
      ∧ ∃ acts, t.trace = s.trace ++ acts
        ∧ ((∃ a ∈ acts, a.isOpen = true) →
            s.host.phase = .opening ∧ s.pc = .idle ∧ acts = [.openTransport s.cfg.val.serialPath]))

end
end

