-- ==== Sys2Proof/Laws/State.lean ====
section
/-! SUPPORT. One lemma per field per register update, so that no proof unfolds a record update. -/

namespace Sys2Proof.Machine

@[simp] theorem State.conf_eq (s : State) : s.conf = s.cfg.val := rfl

@[simp] theorem State.setPc_cfg (s : State) (p : Phase) : (s.setPc p).cfg = s.cfg := rfl
@[simp] theorem State.setPc_pc (s : State) (p : Phase) : (s.setPc p).pc = p := rfl
@[simp] theorem State.setPc_cmd (s : State) (p : Phase) : (s.setPc p).cmd = s.cmd := rfl
@[simp] theorem State.setPc_txFrame (s : State) (p : Phase) : (s.setPc p).txFrame = s.txFrame := rfl
@[simp] theorem State.setPc_rx (s : State) (p : Phase) : (s.setPc p).rx = s.rx := rfl
@[simp] theorem State.setPc_res (s : State) (p : Phase) : (s.setPc p).res = s.res := rfl
@[simp] theorem State.setPc_tp (s : State) (p : Phase) : (s.setPc p).tp = s.tp := rfl
@[simp] theorem State.setPc_host (s : State) (p : Phase) : (s.setPc p).host = s.host := rfl
@[simp] theorem State.setPc_port (s : State) (p : Phase) : (s.setPc p).port = s.port := rfl
@[simp] theorem State.setPc_resultPort (s : State) (p : Phase) : (s.setPc p).resultPort = s.resultPort := rfl
@[simp] theorem State.setPc_resetIn (s : State) (p : Phase) : (s.setPc p).resetIn = s.resetIn := rfl
@[simp] theorem State.setPc_trace (s : State) (p : Phase) : (s.setPc p).trace = s.trace := rfl

@[simp] theorem State.setCmd_cfg (s : State) (c : Command) : (s.setCmd c).cfg = s.cfg := rfl
@[simp] theorem State.setCmd_pc (s : State) (c : Command) : (s.setCmd c).pc = s.pc := rfl
@[simp] theorem State.setCmd_cmd (s : State) (c : Command) : (s.setCmd c).cmd = some c := rfl
@[simp] theorem State.setCmd_txFrame (s : State) (c : Command) : (s.setCmd c).txFrame = s.txFrame := rfl
@[simp] theorem State.setCmd_rx (s : State) (c : Command) : (s.setCmd c).rx = s.rx := rfl
@[simp] theorem State.setCmd_res (s : State) (c : Command) : (s.setCmd c).res = s.res := rfl
@[simp] theorem State.setCmd_tp (s : State) (c : Command) : (s.setCmd c).tp = s.tp := rfl
@[simp] theorem State.setCmd_host (s : State) (c : Command) : (s.setCmd c).host = s.host := rfl
@[simp] theorem State.setCmd_port (s : State) (c : Command) : (s.setCmd c).port = s.port := rfl
@[simp] theorem State.setCmd_resultPort (s : State) (c : Command) : (s.setCmd c).resultPort = s.resultPort := rfl
@[simp] theorem State.setCmd_resetIn (s : State) (c : Command) : (s.setCmd c).resetIn = s.resetIn := rfl
@[simp] theorem State.setCmd_trace (s : State) (c : Command) : (s.setCmd c).trace = s.trace := rfl

@[simp] theorem State.setTxFrame_cfg (s : State) (f : List Byte) : (s.setTxFrame f).cfg = s.cfg := rfl
@[simp] theorem State.setTxFrame_pc (s : State) (f : List Byte) : (s.setTxFrame f).pc = s.pc := rfl
@[simp] theorem State.setTxFrame_cmd (s : State) (f : List Byte) : (s.setTxFrame f).cmd = s.cmd := rfl
@[simp] theorem State.setTxFrame_txFrame (s : State) (f : List Byte) : (s.setTxFrame f).txFrame = some f := rfl
@[simp] theorem State.setTxFrame_rx (s : State) (f : List Byte) : (s.setTxFrame f).rx = s.rx := rfl
@[simp] theorem State.setTxFrame_res (s : State) (f : List Byte) : (s.setTxFrame f).res = s.res := rfl
@[simp] theorem State.setTxFrame_tp (s : State) (f : List Byte) : (s.setTxFrame f).tp = s.tp := rfl
@[simp] theorem State.setTxFrame_host (s : State) (f : List Byte) : (s.setTxFrame f).host = s.host := rfl
@[simp] theorem State.setTxFrame_port (s : State) (f : List Byte) : (s.setTxFrame f).port = s.port := rfl
@[simp] theorem State.setTxFrame_resultPort (s : State) (f : List Byte) : (s.setTxFrame f).resultPort = s.resultPort := rfl
@[simp] theorem State.setTxFrame_resetIn (s : State) (f : List Byte) : (s.setTxFrame f).resetIn = s.resetIn := rfl
@[simp] theorem State.setTxFrame_trace (s : State) (f : List Byte) : (s.setTxFrame f).trace = s.trace := rfl

@[simp] theorem State.setRx_cfg (s : State) (r : RxState) : (s.setRx r).cfg = s.cfg := rfl
@[simp] theorem State.setRx_pc (s : State) (r : RxState) : (s.setRx r).pc = s.pc := rfl
@[simp] theorem State.setRx_cmd (s : State) (r : RxState) : (s.setRx r).cmd = s.cmd := rfl
@[simp] theorem State.setRx_txFrame (s : State) (r : RxState) : (s.setRx r).txFrame = s.txFrame := rfl
@[simp] theorem State.setRx_rx (s : State) (r : RxState) : (s.setRx r).rx = r := rfl
@[simp] theorem State.setRx_res (s : State) (r : RxState) : (s.setRx r).res = s.res := rfl
@[simp] theorem State.setRx_tp (s : State) (r : RxState) : (s.setRx r).tp = s.tp := rfl
@[simp] theorem State.setRx_host (s : State) (r : RxState) : (s.setRx r).host = s.host := rfl
@[simp] theorem State.setRx_port (s : State) (r : RxState) : (s.setRx r).port = s.port := rfl
@[simp] theorem State.setRx_resultPort (s : State) (r : RxState) : (s.setRx r).resultPort = s.resultPort := rfl
@[simp] theorem State.setRx_resetIn (s : State) (r : RxState) : (s.setRx r).resetIn = s.resetIn := rfl
@[simp] theorem State.setRx_trace (s : State) (r : RxState) : (s.setRx r).trace = s.trace := rfl

@[simp] theorem State.setRes_cfg (s : State) (r : Result) : (s.setRes r).cfg = s.cfg := rfl
@[simp] theorem State.setRes_pc (s : State) (r : Result) : (s.setRes r).pc = s.pc := rfl
@[simp] theorem State.setRes_cmd (s : State) (r : Result) : (s.setRes r).cmd = s.cmd := rfl
@[simp] theorem State.setRes_txFrame (s : State) (r : Result) : (s.setRes r).txFrame = s.txFrame := rfl
@[simp] theorem State.setRes_rx (s : State) (r : Result) : (s.setRes r).rx = s.rx := rfl
@[simp] theorem State.setRes_res (s : State) (r : Result) : (s.setRes r).res = some r := rfl
@[simp] theorem State.setRes_tp (s : State) (r : Result) : (s.setRes r).tp = s.tp := rfl
@[simp] theorem State.setRes_host (s : State) (r : Result) : (s.setRes r).host = s.host := rfl
@[simp] theorem State.setRes_port (s : State) (r : Result) : (s.setRes r).port = s.port := rfl
@[simp] theorem State.setRes_resultPort (s : State) (r : Result) : (s.setRes r).resultPort = s.resultPort := rfl
@[simp] theorem State.setRes_resetIn (s : State) (r : Result) : (s.setRes r).resetIn = s.resetIn := rfl
@[simp] theorem State.setRes_trace (s : State) (r : Result) : (s.setRes r).trace = s.trace := rfl

@[simp] theorem State.setTp_cfg (s : State) (t : Transport) : (s.setTp t).cfg = s.cfg := rfl
@[simp] theorem State.setTp_pc (s : State) (t : Transport) : (s.setTp t).pc = s.pc := rfl
@[simp] theorem State.setTp_cmd (s : State) (t : Transport) : (s.setTp t).cmd = s.cmd := rfl
@[simp] theorem State.setTp_txFrame (s : State) (t : Transport) : (s.setTp t).txFrame = s.txFrame := rfl
@[simp] theorem State.setTp_rx (s : State) (t : Transport) : (s.setTp t).rx = s.rx := rfl
@[simp] theorem State.setTp_res (s : State) (t : Transport) : (s.setTp t).res = s.res := rfl
@[simp] theorem State.setTp_tp (s : State) (t : Transport) : (s.setTp t).tp = t := rfl
@[simp] theorem State.setTp_host (s : State) (t : Transport) : (s.setTp t).host = s.host := rfl
@[simp] theorem State.setTp_port (s : State) (t : Transport) : (s.setTp t).port = s.port := rfl
@[simp] theorem State.setTp_resultPort (s : State) (t : Transport) : (s.setTp t).resultPort = s.resultPort := rfl
@[simp] theorem State.setTp_resetIn (s : State) (t : Transport) : (s.setTp t).resetIn = s.resetIn := rfl
@[simp] theorem State.setTp_trace (s : State) (t : Transport) : (s.setTp t).trace = s.trace := rfl

@[simp] theorem State.setHost_cfg (s : State) (h : HostState) : (s.setHost h).cfg = s.cfg := rfl
@[simp] theorem State.setHost_pc (s : State) (h : HostState) : (s.setHost h).pc = s.pc := rfl
@[simp] theorem State.setHost_cmd (s : State) (h : HostState) : (s.setHost h).cmd = s.cmd := rfl
@[simp] theorem State.setHost_txFrame (s : State) (h : HostState) : (s.setHost h).txFrame = s.txFrame := rfl
@[simp] theorem State.setHost_rx (s : State) (h : HostState) : (s.setHost h).rx = s.rx := rfl
@[simp] theorem State.setHost_res (s : State) (h : HostState) : (s.setHost h).res = s.res := rfl
@[simp] theorem State.setHost_tp (s : State) (h : HostState) : (s.setHost h).tp = s.tp := rfl
@[simp] theorem State.setHost_host (s : State) (h : HostState) : (s.setHost h).host = h := rfl
@[simp] theorem State.setHost_port (s : State) (h : HostState) : (s.setHost h).port = s.port := rfl
@[simp] theorem State.setHost_resultPort (s : State) (h : HostState) : (s.setHost h).resultPort = s.resultPort := rfl
@[simp] theorem State.setHost_resetIn (s : State) (h : HostState) : (s.setHost h).resetIn = s.resetIn := rfl
@[simp] theorem State.setHost_trace (s : State) (h : HostState) : (s.setHost h).trace = s.trace := rfl

@[simp] theorem State.setPort_cfg (s : State) (c : Option Instr) : (s.setPort c).cfg = s.cfg := rfl
@[simp] theorem State.setPort_pc (s : State) (c : Option Instr) : (s.setPort c).pc = s.pc := rfl
@[simp] theorem State.setPort_cmd (s : State) (c : Option Instr) : (s.setPort c).cmd = s.cmd := rfl
@[simp] theorem State.setPort_txFrame (s : State) (c : Option Instr) : (s.setPort c).txFrame = s.txFrame := rfl
@[simp] theorem State.setPort_rx (s : State) (c : Option Instr) : (s.setPort c).rx = s.rx := rfl
@[simp] theorem State.setPort_res (s : State) (c : Option Instr) : (s.setPort c).res = s.res := rfl
@[simp] theorem State.setPort_tp (s : State) (c : Option Instr) : (s.setPort c).tp = s.tp := rfl
@[simp] theorem State.setPort_host (s : State) (c : Option Instr) : (s.setPort c).host = s.host := rfl
@[simp] theorem State.setPort_port (s : State) (c : Option Instr) : (s.setPort c).port = c := rfl
@[simp] theorem State.setPort_resultPort (s : State) (c : Option Instr) : (s.setPort c).resultPort = s.resultPort := rfl
@[simp] theorem State.setPort_resetIn (s : State) (c : Option Instr) : (s.setPort c).resetIn = s.resetIn := rfl
@[simp] theorem State.setPort_trace (s : State) (c : Option Instr) : (s.setPort c).trace = s.trace := rfl

@[simp] theorem State.setResultPort_cfg (s : State) (r : Option Result) : (s.setResultPort r).cfg = s.cfg := rfl
@[simp] theorem State.setResultPort_pc (s : State) (r : Option Result) : (s.setResultPort r).pc = s.pc := rfl
@[simp] theorem State.setResultPort_cmd (s : State) (r : Option Result) : (s.setResultPort r).cmd = s.cmd := rfl
@[simp] theorem State.setResultPort_txFrame (s : State) (r : Option Result) : (s.setResultPort r).txFrame = s.txFrame := rfl
@[simp] theorem State.setResultPort_rx (s : State) (r : Option Result) : (s.setResultPort r).rx = s.rx := rfl
@[simp] theorem State.setResultPort_res (s : State) (r : Option Result) : (s.setResultPort r).res = s.res := rfl
@[simp] theorem State.setResultPort_tp (s : State) (r : Option Result) : (s.setResultPort r).tp = s.tp := rfl
@[simp] theorem State.setResultPort_host (s : State) (r : Option Result) : (s.setResultPort r).host = s.host := rfl
@[simp] theorem State.setResultPort_port (s : State) (r : Option Result) : (s.setResultPort r).port = s.port := rfl
@[simp] theorem State.setResultPort_resultPort (s : State) (r : Option Result) : (s.setResultPort r).resultPort = r := rfl
@[simp] theorem State.setResultPort_resetIn (s : State) (r : Option Result) : (s.setResultPort r).resetIn = s.resetIn := rfl
@[simp] theorem State.setResultPort_trace (s : State) (r : Option Result) : (s.setResultPort r).trace = s.trace := rfl

@[simp] theorem State.log_cfg (s : State) (a : Action) : (s.log a).cfg = s.cfg := rfl
@[simp] theorem State.log_pc (s : State) (a : Action) : (s.log a).pc = s.pc := rfl
@[simp] theorem State.log_cmd (s : State) (a : Action) : (s.log a).cmd = s.cmd := rfl
@[simp] theorem State.log_txFrame (s : State) (a : Action) : (s.log a).txFrame = s.txFrame := rfl
@[simp] theorem State.log_rx (s : State) (a : Action) : (s.log a).rx = s.rx := rfl
@[simp] theorem State.log_res (s : State) (a : Action) : (s.log a).res = s.res := rfl
@[simp] theorem State.log_tp (s : State) (a : Action) : (s.log a).tp = s.tp := rfl
@[simp] theorem State.log_host (s : State) (a : Action) : (s.log a).host = s.host := rfl
@[simp] theorem State.log_port (s : State) (a : Action) : (s.log a).port = s.port := rfl
@[simp] theorem State.log_resultPort (s : State) (a : Action) : (s.log a).resultPort = s.resultPort := rfl
@[simp] theorem State.log_resetIn (s : State) (a : Action) : (s.log a).resetIn = s.resetIn := rfl
@[simp] theorem State.log_trace (s : State) (a : Action) : (s.log a).trace = s.trace ++ [a] := rfl

end Sys2Proof.Machine
end

