-- ==== Sys2Proof/Laws/Ops.lean ====
section
/-! SUPPORT. What each shared operation over the buffer, the transport and the ports does, said once:
every field it writes stands in the equation, and every other field is the old one. -/

namespace Sys2Proof.Machine

/-! ## Sequences and the buffer -/

@[simp] theorem length_slice (s : List Byte) (i j : Nat) : (slice s i j).length = min j s.length - i := by
  simp [slice]

@[simp] theorem memAppend_eq (m : Memory) (b : Byte) : memAppend m b = m ++ [b] := by
  simp [memAppend, memWrite]

theorem memRead_eq (m : Memory) (a n : Nat) : memRead m a n = (m.drop a).take n := by
  simp [memRead, slice, List.drop_take]

theorem last2_eq (s : List Byte) : last2 s = s.drop (s.length - 2) := by
  simp [last2, slice]

/-- A footer needs two bytes. -/
theorem two_le_of_last2 {s : List Byte} {a b : Byte} (h : last2 s = [a, b]) : 2 ≤ s.length := by
  have := congrArg List.length h
  simp [last2] at this
  omega

/-- The bytes written are the bytes read back. -/
theorem memRead_memWrite (m : Memory) (a : Nat) (v : List Byte) (h : a ≤ m.length) :
    memRead (memWrite m a v) a v.length = v := by
  simp [memRead_eq, memWrite, List.append_assoc, Nat.min_eq_left h]

/-- An append leaves every byte that was there alone. -/
theorem memByte_memAppend (m : Memory) (b : Byte) (a : Nat) (h : a < m.length) :
    memByte (memAppend m b) a = memByte m a := by
  simp [memByte, List.getElem?_append_left h]

/-- The appended byte stands at the old length. -/
theorem memByte_memAppend_length (m : Memory) (b : Byte) :
    memByte (memAppend m b) m.length = some b := by
  simp [memByte]

@[simp] theorem memCells_length (m : Memory) : (memCells m).length = m.length := by
  simp [memCells]

/-- Every buffer is in the canonical form: its addresses are 0, 1, ... -/
theorem memCells_wf (m : Memory) : Memory.wf (memCells m) = true := by
  simp [Memory.wf, memCells, List.map_map, Function.comp_def, List.zipIdx_map_snd, List.range_eq_range']

/-- The one store of the block keeps the canonical form. -/
theorem memAppend_wf (m : Memory) (b : Byte) : Memory.wf (memCells (memAppend m b)) = true :=
  memCells_wf _

/-! ## The transport -/

theorem Transport.flushIn_eq (t : Transport) : t.flushIn = { t with tin := [] } := rfl

theorem Transport.flushOut_eq (t : Transport) : t.flushOut = { t with tout := [] } := rfl

/-- A write changes the output buffer, and nothing else. -/
theorem Transport.write_eq (t : Transport) (f : List Byte) : t.write f = { t with tout := t.tout ++ f } :=
  rfl

theorem Transport.opened_eq (t : Transport) : t.opened = { t with isOpen := true } := rfl

/-- Everything the line can do in one step: free bytes arrive, the script's bytes arrive, or the
transport stops answering. -/
theorem Transport.arrive_cases (t : Transport) :
    (t.line = [] ∧ t.arrive = { t with tin := t.tin ++ Config.freeArrival t.draws, draws := t.draws + 1 })
    ∨ (∃ bs rest, t.line = .arrive bs :: rest ∧ t.arrive = { t with tin := t.tin ++ bs, line := rest })
    ∨ (∃ rest, t.line = .stopped :: rest ∧ t.arrive = { t with answering := false, line := rest }) := by
  rcases h : t.line with _ | ⟨e, rest⟩
  · exact .inl ⟨rfl, by simp [Transport.arrive, h]⟩
  · cases e with
    | arrive bs => exact .inr (.inl ⟨bs, rest, rfl, by simp [Transport.arrive, h]⟩)
    | stopped => exact .inr (.inr ⟨rest, rfl, by simp [Transport.arrive, h]⟩)

@[simp] theorem Transport.arrive_isOpen (t : Transport) : t.arrive.isOpen = t.isOpen := by
  rcases t.arrive_cases with ⟨_, e⟩ | ⟨_, _, _, e⟩ | ⟨_, _, e⟩ <;> rw [e]

@[simp] theorem Transport.move_isOpen (t : Transport) : t.move.isOpen = t.isOpen := t.arrive_isOpen

@[simp] theorem Transport.between_isOpen (t : Transport) : t.between.isOpen = t.isOpen := t.arrive_isOpen

@[simp] theorem Transport.move_tin (t : Transport) : t.move.tin = t.arrive.tin := rfl
@[simp] theorem Transport.move_line (t : Transport) : t.move.line = t.arrive.line := rfl
@[simp] theorem Transport.move_answering (t : Transport) : t.move.answering = t.arrive.answering := rfl
@[simp] theorem Transport.between_tin (t : Transport) : t.between.tin = t.arrive.tin := rfl
@[simp] theorem Transport.between_line (t : Transport) : t.between.line = t.arrive.line := rfl
@[simp] theorem Transport.between_answering (t : Transport) :
    t.between.answering = t.arrive.answering := rfl

/-- Bytes that wait in the input buffer stay there, before those that arrive (20_memory R81). -/
theorem Transport.prefix_arrive_tin (t : Transport) : t.tin <+: t.arrive.tin := by
  rcases t.arrive_cases with ⟨_, e⟩ | ⟨_, _, _, e⟩ | ⟨_, _, e⟩ <;> rw [e] <;> simp

/-- The transport answers after the line has moved, unless it had stopped before or stops now. -/
theorem Transport.arrive_answering_eq_false (t : Transport) :
    t.arrive.answering = false ↔ t.answering = false ∨ ∃ rest, t.line = .stopped :: rest := by
  rcases t.arrive_cases with ⟨h, e⟩ | ⟨_, _, h, e⟩ | ⟨_, h, e⟩ <;> rw [e] <;> simp [h]

/-- Everything a read can do: it never returns, it reports no byte, or it takes the oldest byte. -/
theorem Transport.rxEvent_cases (t : Transport) :
    (t.answering = false ∧ t.rxEvent = none)
    ∨ (t.answering = true ∧ t.tin = [] ∧ t.rxEvent = some (.silence, t))
    ∨ (t.answering = true ∧ ∃ b q, t.tin = b :: q ∧ t.rxEvent = some (.byte b, { t with tin := q })) := by
  cases ha : t.answering with
  | false => exact .inl ⟨rfl, by simp [Transport.rxEvent, ha]⟩
  | true =>
    rcases h : t.tin with _ | ⟨b, q⟩
    · exact .inr (.inl ⟨rfl, rfl, by simp [Transport.rxEvent, Transport.takeByte, ha, h]⟩)
    · exact .inr (.inr ⟨rfl, b, q, rfl, by simp [Transport.rxEvent, Transport.takeByte, ha, h]⟩)

/-- A read does not answer only when the transport has stopped answering. -/
theorem Transport.rxEvent_none_iff (t : Transport) : t.rxEvent = none ↔ t.answering = false := by
  rcases t.rxEvent_cases with ⟨h, e⟩ | ⟨h, _, e⟩ | ⟨h, _, _, _, e⟩ <;> simp [h, e]

/-- A read that answers changes the input buffer only. -/
theorem Transport.rxEvent_some {t u : Transport} {a : Answer} (h : t.rxEvent = some (a, u)) :
    u = { t with tin := u.tin } := by
  rcases t.rxEvent_cases with ⟨_, e⟩ | ⟨_, _, e⟩ | ⟨_, _, _, _, e⟩ <;> rw [e] at h <;> cases h <;> rfl

theorem Transport.rxEvent_isOpen {t u : Transport} {a : Answer} (h : t.rxEvent = some (a, u)) :
    u.isOpen = t.isOpen := by
  rw [Transport.rxEvent_some h]

/-! ## Transport actions, results, failures -/

/-- The line's move writes the transport, and nothing else. -/
theorem State.lineMoves_eq (s : State) :
    s.lineMoves = { s with tp := if s.pc = .idle then s.tp.between else s.tp.move } := rfl

theorem State.lineMoves_idle {s : State} (h : s.pc = .idle) : s.lineMoves = { s with tp := s.tp.between } := by
  simp [State.lineMoves_eq, h]

theorem State.lineMoves_busy {s : State} (h : s.pc ≠ .idle) : s.lineMoves = { s with tp := s.tp.move } := by
  simp [State.lineMoves_eq, h]

@[simp] theorem State.lineMoves_cfg (s : State) : s.lineMoves.cfg = s.cfg := rfl
@[simp] theorem State.lineMoves_pc (s : State) : s.lineMoves.pc = s.pc := rfl
@[simp] theorem State.lineMoves_cmd (s : State) : s.lineMoves.cmd = s.cmd := rfl
@[simp] theorem State.lineMoves_txFrame (s : State) : s.lineMoves.txFrame = s.txFrame := rfl
@[simp] theorem State.lineMoves_rx (s : State) : s.lineMoves.rx = s.rx := rfl
@[simp] theorem State.lineMoves_res (s : State) : s.lineMoves.res = s.res := rfl
@[simp] theorem State.lineMoves_host (s : State) : s.lineMoves.host = s.host := rfl
@[simp] theorem State.lineMoves_port (s : State) : s.lineMoves.port = s.port := rfl
@[simp] theorem State.lineMoves_resultPort (s : State) : s.lineMoves.resultPort = s.resultPort := rfl
@[simp] theorem State.lineMoves_resetIn (s : State) : s.lineMoves.resetIn = s.resetIn := rfl
@[simp] theorem State.lineMoves_trace (s : State) : s.lineMoves.trace = s.trace := rfl

@[simp] theorem State.lineMoves_isOpen (s : State) : s.lineMoves.tp.isOpen = s.tp.isOpen := by
  rw [State.lineMoves_eq]
  split <;> simp

theorem State.openTransport_eq (s : State) :
    s.openTransport = { s with tp := s.tp.opened, trace := s.trace ++ [.openTransport s.conf.serialPath] } :=
  rfl

theorem State.flushBoth_eq (s : State) :
    s.flushBoth = { s with tp := s.tp.flushIn.flushOut, trace := s.trace ++ [.flushIn, .flushOut] } := by
  simp [State.flushBoth, State.flushIn, State.flushOut, State.setTp, State.log]

theorem State.txWrite_eq (s : State) (f : List Byte) :
    s.txWrite f = { s with tp := s.tp.write f, trace := s.trace ++ [.txWrite f] } := rfl

theorem State.deliver_eq (s : State) (r : Result) :
    s.deliver r = { s with resultPort := some r, trace := s.trace ++ [.result r] } := rfl

theorem State.takeFailure_eq (s : State) (f : Failure) :
    s.takeFailure f = { s with res := some (.fail f), pc := .postFlush } := rfl

/-- The end of a transaction: what it writes, and nothing else. -/
theorem State.complete_eq (s : State) :
    s.complete = { s with pc := .idle, tp := s.tp.flushIn.flushOut, resultPort := some s.readRes,
                          trace := s.trace ++ [.flushIn, .flushOut, .result s.readRes] } := by
  simp [State.complete, State.flushBoth_eq, State.deliver_eq, State.setPc, List.append_assoc]

/-! ## Reads -/

theorem State.readCmd_of_some {s : State} {c : Command} (h : s.cmd = some c) : s.readCmd = c := by
  simp [State.readCmd, h]

theorem State.readTxFrame_of_some {s : State} {f : List Byte} (h : s.txFrame = some f) :
    s.readTxFrame = f := by
  simp [State.readTxFrame, h]

theorem State.readRes_of_some {s : State} {r : Result} (h : s.res = some r) : s.readRes = r := by
  simp [State.readRes, h]

end Sys2Proof.Machine
end

