-- ==== Sys2Proof/Laws/Codec.lean ====
section
/-! SUPPORT. The small lemmas of CHECKSUM, ENCODE, DECODE and the registry. -/

namespace Sys2Proof.Machine

@[simp] theorem byteSum_nil : byteSum [] = 0 := rfl

@[simp] theorem byteSum_cons (b : Byte) (s : List Byte) : byteSum (b :: s) = b.toNat + byteSum s := by
  simp [byteSum]

@[simp] theorem byteSum_append (s t : List Byte) : byteSum (s ++ t) = byteSum s + byteSum t := by
  simp [byteSum]

theorem checksum_toNat (s : List Byte) : (checksum s).toNat = byteSum s % 256 := by
  simp [checksum]

/-- A frame written out, with every append at the right. -/
theorem encodeFrame_eq (d : Byte) (p : List Byte) :
    encodeFrame d p = 0x10 :: 0x02 :: d :: (p ++ [checksum (0x10 :: 0x02 :: d :: p), 0x10, 0x03]) := by
  simp [encodeFrame, headerBytes, footerBytes]

@[simp] theorem encodeFrame_length (d : Byte) (p : List Byte) : (encodeFrame d p).length = p.length + 6 := by
  simp [encodeFrame_eq]

/-- The four tests of DECODE, one by one, decide its outcome. -/
theorem decodeFrame_cases (raw : List Byte) :
    (raw.length < 5 ∧ decodeFrame raw = .fail (.malformedFrame .lenFloor))
    ∨ (5 ≤ raw.length ∧ memRead raw 0 2 ≠ headerBytes
        ∧ decodeFrame raw = .fail (.malformedFrame .badHeader))
    ∨ (5 ≤ raw.length ∧ memRead raw 0 2 = headerBytes ∧ memRead raw (raw.length - 2) 2 ≠ footerBytes
        ∧ decodeFrame raw = .fail (.malformedFrame .badFooter))
    ∨ (5 ≤ raw.length ∧ memRead raw 0 2 = headerBytes ∧ memRead raw (raw.length - 2) 2 = footerBytes
        ∧ memByte raw (raw.length - 3) ≠ some (checksum (slice raw 0 (raw.length - 3)))
        ∧ decodeFrame raw = .fail (.malformedFrame .badChecksum))
    ∨ (5 ≤ raw.length ∧ memRead raw 0 2 = headerBytes ∧ memRead raw (raw.length - 2) 2 = footerBytes
        ∧ memByte raw (raw.length - 3) = some (checksum (slice raw 0 (raw.length - 3)))
        ∧ decodeFrame raw = .ok { dest := (memByte raw 2).getD 0, payload := framePayload raw }) := by
  by_cases h1 : raw.length < 5
  · exact .inl ⟨h1, by simp [decodeFrame, lenFloor, h1]⟩
  by_cases h2 : memRead raw 0 2 = headerBytes
  · by_cases h3 : memRead raw (raw.length - 2) 2 = footerBytes
    · by_cases h4 : memByte raw (raw.length - 3) = some (checksum (slice raw 0 (raw.length - 3)))
      · exact .inr (.inr (.inr (.inr ⟨by omega, h2, h3, h4, by simp [decodeFrame, lenFloor, h1, h2, h3, h4]⟩)))
      · exact .inr (.inr (.inr (.inl ⟨by omega, h2, h3, h4, by simp [decodeFrame, lenFloor, h1, h2, h3, h4]⟩)))
    · exact .inr (.inr (.inl ⟨by omega, h2, h3, by simp [decodeFrame, lenFloor, h1, h2, h3]⟩))
  · exact .inr (.inl ⟨by omega, h2, by simp [decodeFrame, lenFloor, h1, h2]⟩)

/-- DECODE fails with MalformedFrame, or succeeds with the payload slice. -/
theorem decodeFrame_ok_payload {raw : List Byte} {f : Frame} (h : decodeFrame raw = .ok f) :
    f = { dest := (memByte raw 2).getD 0, payload := framePayload raw } := by
  rcases decodeFrame_cases raw with ⟨_, e⟩ | ⟨_, _, e⟩ | ⟨_, _, _, e⟩ | ⟨_, _, _, _, e⟩ | ⟨_, _, _, _, e⟩ <;>
    simp_all

/-- The payload of a frame of `n` bytes has `n - 6` bytes (20_memory R64). -/
theorem framePayload_length (raw : List Byte) : (framePayload raw).length = raw.length - 6 := by
  simp [framePayload]
  omega

theorem powerOperand_isSome (p : Int) : (powerOperand p).isSome = true ↔ 0 ≤ p ∧ p ≤ 101 := by
  unfold powerOperand
  split <;> simp_all

theorem powerOperand_eq_some {p : Int} {q : Fin 102} (h : powerOperand p = some q) : (q.val : Int) = p := by
  unfold powerOperand at h
  split at h
  · rename_i hp
    injection h with h
    subst h
    exact Int.toNat_of_nonneg hp.1
  · cases h

theorem powerOperand_none {p : Int} (h : ¬(0 ≤ p ∧ p ≤ 101)) : powerOperand p = none := by
  unfold powerOperand
  split <;> simp_all

/-- The decoder of a command answers with the variant it expects, or, for a status only, with
STATUS_SHORT. -/
theorem decodeResp_cases (cfg : Config) (c : Command) (p : List Byte) :
    (c = .probe ∧ decodeResp cfg c p = .ok .probeAck)
    ∨ (c = .getid ∧ decodeResp cfg c p = .ok (.identity (identityText cfg p)))
    ∨ (∃ q, c = .setpwr q ∧ p.length < cfg.statusMinPayloadLen
        ∧ decodeResp cfg c p = .fail (.malformedFrame .statusShort))
    ∨ (∃ q, c = .setpwr q ∧ cfg.statusMinPayloadLen ≤ p.length
        ∧ decodeResp cfg c p = .ok (.operationalStatus (statusOf cfg p))) := by
  cases c with
  | probe => exact .inl ⟨rfl, rfl⟩
  | getid => exact .inr (.inl ⟨rfl, rfl⟩)
  | setpwr q =>
    by_cases h : p.length < cfg.statusMinPayloadLen
    · exact .inr (.inr (.inl ⟨q, rfl, h, by simp [decodeResp, decodeStatus, h]⟩))
    · exact .inr (.inr (.inr ⟨q, rfl, by omega, by simp [decodeResp, decodeStatus, h]⟩))

theorem tensOf_le (r : Byte) : tensOf r ≤ 2550 := by
  have := r.isLt
  simp only [tensOf]
  omega

theorem identityText_length_le (cfg : Config) (p : List Byte) : (identityText cfg p).length ≤ p.length - 1 := by
  have := List.length_filter_le (fun b => decide (b ∈ cfg.printable)) (p.drop idSkip)
  simpa [identityText, idSkip] using this

theorem identityText_printable (cfg : Config) (p : List Byte) :
    (identityText cfg p).all (fun b => decide (b ∈ cfg.printable)) = true := by
  simp [identityText]

end Sys2Proof.Machine
end

