-- ==== Sys2Proof/Laws/PerInstr.lean ====
section
/-! SUPPORT. Statements made for every command, one lemma per constructor of Instr. -/

namespace Sys2Proof.Laws

/-- The payload of a command has one byte (format C1) or two (format C2), told apart by its first
byte (30_encoding R92, R102). -/
def PayloadShape.Statement (i : Instr) : Prop :=
  ∃ op rest, encode i = op :: rest
    ∧ ((op = opProbe ∧ rest.length = 0) ∨ ((op = opGetid ∨ op = opSetpwr) ∧ rest.length = 1))

theorem PayloadShape.probe : PayloadShape.Statement .probe :=
  ⟨opProbe, [], rfl, .inl ⟨rfl, rfl⟩⟩

theorem PayloadShape.getid : PayloadShape.Statement .getid :=
  ⟨opGetid, [opGetidFixed], rfl, .inr ⟨.inl rfl, rfl⟩⟩

theorem PayloadShape.setpwr (p : Int) : PayloadShape.Statement (.setpwr p) :=
  ⟨opSetpwr, [BitVec.ofInt 8 p], rfl, .inr ⟨.inr rfl, rfl⟩⟩

end Sys2Proof.Laws
end

