-- ==== Sys2Proof/Laws/Receiver.lean ====
section
/-! SUPPORT. Everything one turn of RECEIVE can do (42_stream_receiver R161, R164 to R167), and how
the fold unfolds. -/

namespace Sys2Proof.Machine

/-- The inversion of `rxStep`: the four arms, each with what it leaves. -/
theorem rxStep_cases (cfg : Config) (r : RxState) (a : Answer) :
    (a = .silence ∧ r.timeoutCnt + 1 = cfg.timeoutLimit
      ∧ rxStep cfg r a = .done { r with timeoutCnt := r.timeoutCnt + 1 } (.fail (.timeout (r.timeoutCnt + 1))))
    ∨ (a = .silence ∧ r.timeoutCnt + 1 ≠ cfg.timeoutLimit
      ∧ rxStep cfg r a = .more { r with timeoutCnt := r.timeoutCnt + 1 })
    ∨ (∃ b, a = .byte b ∧ r.unsynced = true ∧ b ≠ marker ∧ cfg.noiseBound < r.discardCnt + 1
      ∧ rxStep cfg r a = .done { r with discardCnt := r.discardCnt + 1 } (.fail (.malformedFrame .noiseOverrun)))
    ∨ (∃ b, a = .byte b ∧ r.unsynced = true ∧ b ≠ marker ∧ r.discardCnt + 1 ≤ cfg.noiseBound
      ∧ rxStep cfg r a = .more { r with discardCnt := r.discardCnt + 1 })
    ∨ (a = .byte marker ∧ r.unsynced = true
      ∧ rxStep cfg r a = .more { r with unsynced := false, buf := [marker] })
    ∨ (∃ b, a = .byte b ∧ r.unsynced = false ∧ cfg.maxFrameLen < r.buf.length + 1
      ∧ rxStep cfg r a = .done { r with buf := r.buf ++ [b] } (.fail (.malformedFrame .frameOverrun)))
    ∨ (∃ b, a = .byte b ∧ r.unsynced = false ∧ r.buf.length + 1 ≤ cfg.maxFrameLen
      ∧ last2 (r.buf ++ [b]) = footerBytes
      ∧ rxStep cfg r a = .done { r with buf := r.buf ++ [b] } (.ok (r.buf ++ [b])))
    ∨ (∃ b, a = .byte b ∧ r.unsynced = false ∧ r.buf.length + 1 ≤ cfg.maxFrameLen
      ∧ last2 (r.buf ++ [b]) ≠ footerBytes
      ∧ rxStep cfg r a = .more { r with buf := r.buf ++ [b] }) := by
  cases a with
  | silence =>
    by_cases h : r.timeoutCnt + 1 = cfg.timeoutLimit
    · exact .inl ⟨rfl, h, by simp [rxStep, rxSilence, timeoutReached, h]⟩
    · exact .inr (.inl ⟨rfl, h, by simp [rxStep, rxSilence, timeoutReached, h]⟩)
  | byte b =>
    cases hu : r.unsynced with
    | true =>
      by_cases hb : b = marker
      · subst hb
        exact .inr (.inr (.inr (.inr (.inl ⟨rfl, rfl, by simp [rxStep, rxSync, hu]⟩))))
      by_cases hn : cfg.noiseBound < r.discardCnt + 1
      · exact .inr (.inr (.inl ⟨b, rfl, rfl, hb, hn, by simp [rxStep, rxDiscard, noiseExceeded, hu, hb, hn]⟩))
      · exact .inr (.inr (.inr (.inl ⟨b, rfl, rfl, hb, by omega,
          by simp [rxStep, rxDiscard, noiseExceeded, hu, hb, hn]⟩)))
    | false =>
      by_cases hl : cfg.maxFrameLen < r.buf.length + 1
      · exact .inr (.inr (.inr (.inr (.inr (.inl ⟨b, rfl, rfl, hl, by simp [rxStep, rxStore, frameExceeded, hu, hl]⟩)))))
      by_cases hf : last2 (r.buf ++ [b]) = footerBytes
      · exact .inr (.inr (.inr (.inr (.inr (.inr (.inl ⟨b, rfl, rfl, by omega, hf,
          by simp [rxStep, rxStore, frameExceeded, hu, hl, hf]⟩))))))
      · exact .inr (.inr (.inr (.inr (.inr (.inr (.inr ⟨b, rfl, rfl, by omega, hf,
          by simp [rxStep, rxStore, frameExceeded, hu, hl, hf]⟩))))))

@[simp] theorem receiveFrom_nil (cfg : Config) (r : RxState) (k : Nat) :
    receiveFrom cfg r k [] = .pending r := rfl

theorem receiveFrom_more {cfg : Config} {r r' : RxState} {a : Answer} (k : Nat) (as : List Answer)
    (h : rxStep cfg r a = .more r') : receiveFrom cfg r k (a :: as) = receiveFrom cfg r' (k + 1) as := by
  simp [receiveFrom, h]

theorem receiveFrom_done {cfg : Config} {r r' : RxState} {a : Answer} {o : Ret (List Byte)} (k : Nat)
    (as : List Answer) (h : rxStep cfg r a = .done r' o) :
    receiveFrom cfg r k (a :: as) = .ended r' o (k + 1) := by
  simp [receiveFrom, h]

end Sys2Proof.Machine
end

