-- ==== Sys2Proof/Laws/Sequencer.lean ====
section
/-! SUPPORT. What each phase of the sequencer writes, everything `sequence` and `offer` can answer,
and the meaning of each command at IDLE and while the block is busy. -/

namespace Sys2Proof.Machine

@[simp] theorem busy_eq_false {s : State} : s.busy = false ↔ s.pc = .idle := by
  simp [State.busy]

@[simp] theorem busy_eq_true {s : State} : s.busy = true ↔ s.pc ≠ .idle := by
  simp [State.busy]

theorem accept_eq (c : Command) (s : State) :
    accept c s = { s with cmd := some c, txFrame := some (commandFrame s.conf c), pc := .preFlush } := rfl

theorem refusePower_eq (s : State) :
    refusePower s = { s with resultPort := some (.fail (.contractViolation .powerRange)),
                             trace := s.trace ++ [.result (.fail (.contractViolation .powerRange))] } := rfl

theorem preFlushStep_eq (s : State) :
    preFlushStep s = { s with pc := .send, tp := s.tp.flushIn.flushOut,
                              trace := s.trace ++ [.flushIn, .flushOut] } := by
  simp [preFlushStep, State.flushBoth_eq, State.setPc]

theorem sendStep_eq (s : State) :
    sendStep s = { s with pc := .receive, rx := RxState.init, tp := s.tp.write s.readTxFrame,
                          trace := s.trace ++ [.txWrite s.readTxFrame] } := rfl

/-- What one answer does in RECEIVE, by what it does to the receiver. -/
theorem receiveAnswer_eq (s : State) (a : Answer) :
    receiveAnswer s a =
      match rxStep s.conf s.rx a with
      | .more r => { s with rx := r }
      | .done r (.ok _) => { s with rx := r, pc := .validate }
      | .done r (.fail f) => { s with rx := r, res := some (.fail f), pc := .postFlush } := rfl

theorem validateStep_eq (s : State) :
    validateStep s =
      match decodeFrame s.rx.buf with
      | .ok _ => { s with pc := .dispatch }
      | .fail f => { s with res := some (.fail f), pc := .postFlush } := rfl

/-- DISPATCH writes the decoder's result and goes to POST_FLUSH either way. -/
theorem dispatchStep_eq (s : State) :
    dispatchStep s =
      { s with res := some (decodeResp s.conf s.readCmd (framePayload s.rx.buf)), pc := .postFlush } := by
  unfold dispatchStep
  split <;> rename_i h <;> rw [h] <;> rfl

/-- Everything one step of the sequencer can answer, by phase (43_transaction_driver R190). -/
theorem sequence_next_cases {s t : State} (h : sequence s = .next t) :
    (s.pc = .idle ∧ t = s)
    ∨ (s.pc = .preFlush ∧ s.tp.isOpen = true ∧ t = preFlushStep s)
    ∨ (s.pc = .send ∧ s.tp.isOpen = true ∧ t = sendStep s)
    ∨ (s.pc = .receive ∧ s.tp.isOpen = true ∧ ∃ a u, s.tp.rxEvent = some (a, u)
        ∧ t = receiveAnswer ((s.setTp u).log (.rxEvent a)) a)
    ∨ (s.pc = .validate ∧ t = validateStep s)
    ∨ (s.pc = .dispatch ∧ t = dispatchStep s)
    ∨ (s.pc = .postFlush ∧ s.tp.isOpen = true ∧ t = s.complete) := by
  unfold sequence onTransport at h
  cases hp : s.pc <;> simp only [hp] at h
  · injection h with h
    exact .inl ⟨rfl, h.symm⟩
  · split at h
    · injection h with h
      exact .inr (.inl ⟨rfl, ‹_›, h.symm⟩)
    · cases h
  · split at h
    · injection h with h
      exact .inr (.inr (.inl ⟨rfl, ‹_›, h.symm⟩))
    · cases h
  · split at h
    · unfold receiveStep at h
      split at h
      · cases h
      · injection h with h
        exact .inr (.inr (.inr (.inl ⟨rfl, ‹_›, _, _, ‹_›, h.symm⟩)))
    · cases h
  · injection h with h
    exact .inr (.inr (.inr (.inr (.inl ⟨rfl, h.symm⟩))))
  · injection h with h
    exact .inr (.inr (.inr (.inr (.inr (.inl ⟨rfl, h.symm⟩)))))
  · split at h
    · injection h with h
      exact .inr (.inr (.inr (.inr (.inr (.inr ⟨rfl, ‹_›, h.symm⟩)))))
    · cases h

/-- A command offered while the block is busy changes nothing of what the sequencer does. -/
theorem offer_busy {c : Option Command} {s : State} (h : s.pc ≠ .idle) : offer c s = sequence s := by
  simp [offer, h]

theorem offer_idle_some {c : Command} {s : State} (h : s.pc = .idle) :
    offer (some c) s = .next (accept c s) := by
  simp [offer, State.busy, h]

theorem offer_idle_none {s : State} (h : s.pc = .idle) : offer none s = .next (refusePower s) := by
  simp [offer, State.busy, h]

/-- Everything a command event can answer with a next state. -/
theorem offer_next_cases {c : Option Command} {s t : State} (h : offer c s = .next t) :
    (s.pc = .idle ∧ ∃ d, c = some d ∧ t = accept d s)
    ∨ (s.pc = .idle ∧ c = none ∧ t = refusePower s)
    ∨ (s.pc ≠ .idle ∧ sequence s = .next t) := by
  by_cases hp : s.pc = .idle
  · cases c with
    | none =>
      rw [offer_idle_none hp] at h
      injection h with h
      exact .inr (.inl ⟨hp, rfl, h.symm⟩)
    | some d =>
      rw [offer_idle_some hp] at h
      injection h with h
      exact .inl ⟨hp, d, rfl, h.symm⟩
  · rw [offer_busy hp] at h
    exact .inr (.inr ⟨hp, h⟩)

end Sys2Proof.Machine
end

