-- ==== Sys2Proof/Laws/Step.lean ====
section
/-! SUPPORT. Every command is one event at the port, everything a step of the machine can answer, and
the frame of the host's step. -/

namespace Sys2Proof.Machine

/-- Every arm of exec is the command event of what the port admits (43_transaction_driver R181). -/
theorem exec_eq_offer (i : Instr) (s : State) : exec i s = offer (taken i) s := by
  cases i <;> rfl

/-! ## Which agent acts -/

theorem act_reset {s : State} (h : s.resetIn = true) : act s = .next s.applyReset := by
  simp [act, h]

theorem act_command {s : State} {i : Instr} (h : s.resetIn = false) (hp : s.port = some i) :
    act s = exec i (s.setPort none) := by
  simp [act, h, hp]

theorem act_busy {s : State} (h : s.resetIn = false) (hp : s.port = none) (hb : s.pc ≠ .idle) :
    act s = sequence s := by
  simp [act, h, hp, State.busy, hb]

theorem act_host {s : State} (h : s.resetIn = false) (hp : s.port = none) (hi : s.pc = .idle) :
    act s = .next (hostStep s) := by
  simp [act, h, hp, State.busy, hi]

theorem step_reset {s : State} (h : s.resetIn = true) : step s = .next s.lineMoves.applyReset :=
  act_reset (by simpa using h)

theorem step_command {s : State} {i : Instr} (h : s.resetIn = false) (hp : s.port = some i) :
    step s = exec i (s.lineMoves.setPort none) :=
  act_command (by simpa using h) (by simpa using hp)

theorem step_busy {s : State} (h : s.resetIn = false) (hp : s.port = none) (hb : s.pc ≠ .idle) :
    step s = sequence { s with tp := s.tp.move } := by
  rw [← State.lineMoves_busy hb]
  exact act_busy (by simpa using h) (by simpa using hp) (by simpa using hb)

theorem step_host {s : State} (h : s.resetIn = false) (hp : s.port = none) (hi : s.pc = .idle) :
    step s = .next (hostStep { s with tp := s.tp.between }) := by
  rw [← State.lineMoves_idle hi]
  exact act_host (by simpa using h) (by simpa using hp) (by simpa using hi)

/-- Everything a step can answer with a next state, once the line has moved: reset, a command event, the
busy block, or the host. -/
theorem step_next_cases {s t : State} (h : step s = .next t) :
    (s.resetIn = true ∧ t = s.lineMoves.applyReset)
    ∨ (s.resetIn = false ∧ ∃ i, s.port = some i ∧ exec i (s.lineMoves.setPort none) = .next t)
    ∨ (s.resetIn = false ∧ s.port = none ∧ s.pc ≠ .idle ∧ sequence s.lineMoves = .next t)
    ∨ (s.resetIn = false ∧ s.port = none ∧ s.pc = .idle ∧ t = hostStep s.lineMoves) := by
  cases hr : s.resetIn with
  | true =>
    rw [step_reset hr] at h
    injection h with h
    exact .inl ⟨rfl, h.symm⟩
  | false =>
    cases hp : s.port with
    | some i =>
      rw [step_command hr hp] at h
      exact .inr (.inl ⟨rfl, i, rfl, h⟩)
    | none =>
      by_cases hi : s.pc = .idle
      · rw [step_host hr hp hi] at h
        injection h with h
        exact .inr (.inr (.inr ⟨rfl, rfl, hi, by rw [State.lineMoves_idle hi, h]⟩))
      · rw [step_busy hr hp hi] at h
        exact .inr (.inr (.inl ⟨rfl, rfl, hi, by rw [State.lineMoves_busy hi]; exact h⟩))

/-! ## The host -/

theorem openStep_eq (s : State) :
    openStep s = { s with tp := s.tp.opened, host := { s.host with phase := .start },
                          trace := s.trace ++ [.openTransport s.conf.serialPath] } := rfl

theorem attemptFailed_eq (s : State) :
    attemptFailed s =
      if capReached s.conf (s.host.attemptCount + 1) then
        { s with host := { s.host with attemptCount := s.host.attemptCount + 1, connState := .cantConnect,
                                       phase := .stopped } }
      else { s with host := { s.host with attemptCount := s.host.attemptCount + 1, phase := .gapRetry } } :=
  rfl

theorem pollFailed_eq (s : State) :
    pollFailed s =
      { s with
        host := { s.host with failureStreak := s.host.failureStreak + 1, phase := .gapPoll }
        trace := s.trace ++
          if s.host.failureStreak + 1 = s.conf.streakThreshold + 1 then [.onLinkDown] else [] } := by
  unfold pollFailed
  dsimp only
  split <;> simp [State.setHost, State.log]

theorem pollStart_eq (s : State) :
    pollStart s =
      { s with
        host := { s.host.samplePower with phase := .awaitPoll }
        port := some (.setpwr s.host.samplePower.currentPower)
        resultPort := none
        trace := s.trace ++ [.wait s.conf.pollPeriod] } := rfl

/-- The host never touches the block's registers; of the transport it only opens it. -/
theorem hostStep_frame (s : State) :
    (hostStep s).cfg = s.cfg ∧ (hostStep s).pc = s.pc ∧ (hostStep s).cmd = s.cmd
    ∧ (hostStep s).txFrame = s.txFrame ∧ (hostStep s).rx = s.rx ∧ (hostStep s).res = s.res
    ∧ (hostStep s).resetIn = s.resetIn
    ∧ (hostStep s).tp = if s.host.phase = .opening then s.tp.opened else s.tp := by
  cases hp : s.host.phase <;> cases hr : s.resultPort with
  | none =>
    simp [hostStep, hp, hr, onResult, connectStart, State.offerCommand, State.hostWait, pollStart, openStep_eq]
  | some r =>
    cases r with
    | fail f =>
      simp only [hostStep, hp, hr, onResult, probeResult, identityResult, pollResult, attemptFailed_eq,
        pollFailed_eq, connectStart, State.offerCommand, State.hostWait, pollStart, openStep_eq]
      all_goals try split
      all_goals simp_all
    | ok v =>
      cases v <;>
      · simp only [hostStep, hp, hr, onResult, probeResult, identityResult, pollResult, attemptFailed_eq,
          pollFailed_eq, connectDone, pollSucceeded, connectStart, State.offerCommand, State.hostWait,
          pollStart, openStep_eq]
        all_goals try split
        all_goals simp_all

end Sys2Proof.Machine
end

