-- ==== Sys2Proof/Tests/Slice0.lean ====
section
/-! SUPPORT. Tests. Expected results are the vectors of spec/95_test_vectors.md, named in each comment,
or the spec's encodings written out bit by bit. The last part gives each statement with hypotheses a
state and operands that meet them. -/

namespace Sys2Proof.Tests

open Sys2Proof Sys2Proof.Machine

/-! ## Well-formedness: one ill-formed command for each side of the one check -/

theorem test_setpwr_minus_one_ill_formed : (Instr.setpwr (-1)).wellFormed = false := by decide
theorem test_setpwr_102_ill_formed : (Instr.setpwr 102).wellFormed = false := by decide
theorem test_setpwr_bounds_well_formed :
    (Instr.setpwr 0).wellFormed = true ∧ (Instr.setpwr 101).wellFormed = true := by decide

/-! ## Decoding: payloads written out from 30_encoding R92 -/

theorem test_decode_probe : decode [0b00000000#8] = .ok .probe := by rfl
theorem test_decode_getid : decode [0b00010100#8, 0b00000001#8] = .ok .getid := by rfl
theorem test_decode_setpwr_50 : decode [0b00010001#8, 0b00110010#8] = .ok (.setpwr 50) := by rfl
theorem test_decode_setpwr_101 : decode [0b00010001#8, 0b01100101#8] = .ok (.setpwr 101) := by rfl
theorem test_decode_rejects_power_102 : decode [0x11, 0x66] = .error (.powerRange 0x66) := by rfl
theorem test_decode_rejects_fixed_byte : decode [0x14, 0x02] = .error (.badFixedByte 0x02) := by rfl
theorem test_decode_rejects_opcode : decode [0x12] = .error (.unknownOpcode 0x12) := by rfl
theorem test_decode_rejects_length : decode [0x00, 0x00] = .error (.wrongLength 2) := by rfl
theorem test_decode_rejects_nothing : decode [] = .error .empty := by rfl

/-- The words of spec/opcode_table.json, with SETPWR's operand in bits 6:0. -/
theorem test_table_words :
    decodeTableWord 8 0b00000000 = some .probe ∧ decodeTableWord 16 0b0001010000000001 = some .getid
    ∧ decodeTableWord 16 0b0001000101100101 = some (.setpwr 101) := by decide

/-! ## The test parameter set of 95_test_vectors section 2 -/

/-- The test configuration. -/
def testCfg : ValidConfig :=
  ⟨{ dest := 0xD0, maxFrameLen := 32, noiseBound := 20, timeoutLimit := 3,
     offPhSp := 1, offOutSp := 2, offPhCur := 3, offOutCur := 4, statusMinPayloadLen := 5,
     printable := Config.printableAscii, attemptCap := 3, streakThreshold := 2,
     quiescence := 1, pollPeriod := 2, serialPath := [] }, by decide⟩

/-- A quiet transport with a script. -/
def testTp (line : List LineEvent) : Transport :=
  { isOpen := true, answering := true, tin := [], tout := [], line := line, draws := 0 }

/-- The host at a place of its lifecycle. -/
def testHost (c : ConnState) (p : HostPhase) : HostState :=
  { connState := c, attemptCount := 0, failureStreak := 0, currentPower := 0, phase := p,
    powers := [], draws := 0 }

/-- An idle machine after reset with the test configuration. -/
def testState : State :=
  { cfg := testCfg, pc := .idle, cmd := none, txFrame := none, rx := RxState.init, res := none,
    tp := testTp [], host := testHost .disconnected .start, port := none, resultPort := none,
    resetIn := false, trace := [] }

/-- The same machine in a phase of a PROBE transaction. -/
def probeState (p : Phase) : State :=
  { testState with pc := p, cmd := some .probe, txFrame := some (commandFrame testCfg.val .probe) }

/-- The acknowledgement of 95_test_vectors section 7. -/
def ackFrame : List Byte := [0x10, 0x02, 0xD0, 0xAA, 0x8C, 0x10, 0x03]

/-! ## Codec and decoders -/

/-- V-CS-5, V-CS-6, V-CS-7. -/
theorem test_checksum :
    checksum [0x10, 0x02, 0xD0, 0x1E] = 0x00 ∧ checksum [0x10, 0x02, 0xD0, 0x11, 0x10] = 0x03
    ∧ checksum [0x10, 0x02, 0xFF, 0xFF, 0xFF] = 0x0F := by decide

/-- V-ENC-6: payload bytes 10 03 are not escaped. -/
theorem test_encode_no_escape :
    encodeFrame 0xD0 [0xEE, 0x10, 0x03, 0x47, 0x41]
      = [0x10, 0x02, 0xD0, 0xEE, 0x10, 0x03, 0x47, 0x41, 0x6B, 0x10, 0x03] := by decide

/-- V-CMD-1, V-CMD-2, V-CMD-5. -/
theorem test_command_frames :
    commandFrame testCfg.val .probe = [0x10, 0x02, 0xD0, 0x00, 0xE2, 0x10, 0x03]
    ∧ commandFrame testCfg.val .getid = [0x10, 0x02, 0xD0, 0x14, 0x01, 0xF7, 0x10, 0x03]
    ∧ commandFrame testCfg.val (.setpwr 16) = [0x10, 0x02, 0xD0, 0x11, 0x10, 0x03, 0x10, 0x03] := by
  decide

/-- V-DEC-2, V-DEC-5, V-DEC-23. -/
theorem test_decode_frame :
    decodeFrame [0x10, 0x02, 0xD0, 0x55, 0x41, 0x42, 0x00, 0x43, 0xFD, 0x10, 0x03]
        = .ok { dest := 0xD0, payload := [0x55, 0x41, 0x42, 0x00, 0x43] }
    ∧ decodeFrame [0x10, 0x02, 0x12, 0x10, 0x03] = .ok { dest := 0x12, payload := [] }
    ∧ decodeFrame [0x11, 0x03] = .fail (.malformedFrame .lenFloor) := by decide

/-- V-DEC-18, V-DEC-20, V-DEC-24. -/
theorem test_decode_frame_fails :
    decodeFrame [0x10, 0x02, 0xD0, 0xAA, 0x8C, 0x10, 0x02] = .fail (.malformedFrame .badFooter)
    ∧ decodeFrame [0x10, 0x02, 0xD0, 0xEE, 0x10, 0x03] = .fail (.malformedFrame .badChecksum)
    ∧ decodeFrame [0x11, 0x02, 0xD0, 0xAA, 0x8C, 0x10, 0x02] = .fail (.malformedFrame .badHeader) := by
  decide

/-- V-ID-6, V-ID-7. -/
theorem test_identity :
    identityText testCfg.val [0x55, 0x20, 0x54, 0x52, 0x49, 0x7E, 0x7F, 0x80, 0x1F, 0x20]
        = [0x20, 0x54, 0x52, 0x49, 0x7E, 0x20]
    ∧ identityText testCfg.val [0x41, 0x42, 0x43] = [0x42, 0x43] := by decide

/-- V-ST-1, V-ST-4: pH 7.2 and 7.1 are the raw bytes 72 and 71. -/
theorem test_status :
    decodeStatus testCfg.val [0xEE, 0x48, 0x46, 0x47, 0x41]
        = .ok (.operationalStatus { phSetpoint := { raw := 72 }, phCurrent := { raw := 71 },
                                    outputSetpoint := 700, outputCurrent := 650 })
    ∧ decodeStatus testCfg.val [0xEE, 0x48, 0x46, 0x47] = .fail (.malformedFrame .statusShort) := by
  decide

/-! ## RECEIVE -/

/-- V-RX-2. -/
theorem test_receive_gap_and_noise :
    receive testCfg.val (.silence :: .byte 0x41 :: ackFrame.map .byte)
      = .ended { unsynced := false, discardCnt := 1, timeoutCnt := 1, buf := ackFrame } (.ok ackFrame) 9 := by
  decide

/-- V-RX-6: gaps before and after synchronisation add up. -/
theorem test_receive_timeouts_add_up :
    receive testCfg.val [.silence, .silence, .byte 0x10, .byte 0x02, .byte 0xD0, .silence]
      = .ended { unsynced := false, discardCnt := 0, timeoutCnt := 3, buf := [0x10, 0x02, 0xD0] }
          (.fail (.timeout 3)) 6 := by
  decide

/-- V-RX-10: a footer byte before synchronisation is noise. -/
theorem test_receive_short_footer :
    receive testCfg.val [.byte 0x03, .byte 0x10, .byte 0x03]
      = .ended { unsynced := false, discardCnt := 1, timeoutCnt := 0, buf := [0x10, 0x03] }
          (.ok [0x10, 0x03]) 3 := by
  decide

/-- V-EX-1, V-EX-9: a status frame is an identity to GETID. -/
theorem test_execute :
    (execute testCfg.val .probe (ackFrame.map .byte)).map Transaction.result = some (.ok .probeAck)
    ∧ (execute testCfg.val .getid
          ([0x10, 0x02, 0xD0, 0xEE, 0x48, 0x46, 0x47, 0x41, 0xE6, 0x10, 0x03].map .byte)).map
        Transaction.result = some (.ok (.identity [0x48, 0x46, 0x47, 0x41])) := by
  decide

/-! ## One step -/

/-- The registers a step leaves, or nothing when it stops. -/
def after (o : Step) : Option State :=
  match o with
  | .next t => some t
  | .fault _ => none
  | .refused _ => none

/-- V-CMD-1 through the machine: the table's word is taken as the first instruction after reset. -/
theorem test_step_takes_probe :
    (after (step (testState.withFetchWord 8 0x00))).map (fun t => (t.pc, t.cmd, t.txFrame))
      = some (.preFlush, some .probe, some [0x10, 0x02, 0xD0, 0x00, 0xE2, 0x10, 0x03]) := by
  decide

/-- V-CMD-2 through the machine. -/
theorem test_step_takes_getid :
    (after (step (testState.withFetchWord 16 0x1401))).map (fun t => (t.pc, t.cmd, t.txFrame))
      = some (.preFlush, some .getid, some [0x10, 0x02, 0xD0, 0x14, 0x01, 0xF7, 0x10, 0x03]) := by
  decide

/-- V-CMD-8 through the machine. -/
theorem test_step_takes_setpwr_101 :
    (after (step (testState.withFetchWord 16 0x1165))).map (fun t => (t.pc, t.cmd, t.txFrame))
      = some (.preFlush, some (.setpwr 101), some [0x10, 0x02, 0xD0, 0x11, 0x65, 0x58, 0x10, 0x03]) := by
  decide

/-- V-CMD-11, V-EX-11: 357 is refused, never reduced modulo 256. -/
theorem test_exec_refuses_357 :
    (after (exec (.setpwr 357) testState)).map (fun t => (t.pc, t.cmd, t.res, t.trace))
      = some (.idle, none, none, [.result (.fail (.contractViolation .powerRange))]) := by
  decide

/-- Program 6: the stale bytes are destroyed by the flush before the write. -/
theorem test_preflush_destroys_stale_bytes :
    (after (step { probeState .preFlush with
        tp := { testTp [] with tin := [0xFF, 0xFF, 0x10, 0x02] } })).map (fun t => (t.pc, t.tp.tin))
      = some (.send, []) := by
  decide

/-- V-RX-14 handed to DECODE in the machine: a footer alias fails with BAD_CHECKSUM. -/
theorem test_validate_footer_alias :
    (after (step { probeState .validate with
        rx := { RxState.init with unsynced := false, buf := [0x10, 0x02, 0xD0, 0xEE, 0x10, 0x03] } })).map
        (fun t => (t.pc, t.res))
      = some (.postFlush, some (.fail (.malformedFrame .badChecksum))) := by
  decide

/-- V-RX-20: the transport stops answering. -/
theorem test_receive_stuck :
    step { probeState .receive with tp := testTp [.stopped] } = .fault .transportStopped := by rfl

/-- R276: from the machine before its start-up the host's first step opens the transport, and the next
offers PROBE. -/
theorem test_start_up_opens_then_probes :
    (after (step State.powerOn)).map (fun t => (t.tp.isOpen, t.host.phase, t.port))
      = some (true, .start, none)
    ∧ (after (Host.Core.run Sys2Proof.core 2 State.powerOn)).map (fun t => t.port) = some (some .probe) :=
  ⟨rfl, rfl⟩

/-- R81: a byte that arrives between the flush and the write waits for RECEIVE. -/
theorem test_byte_after_flush_is_read :
    (after (Host.Core.run Sys2Proof.core 2 { probeState .send with
        tp := testTp [.arrive [0x10], .arrive []] })).map (fun t => (t.rx.unsynced, t.rx.buf, t.tp.tin))
      = some (false, [0x10], []) := by
  decide

/-- R235: ok is 0, Timeout is 2. R206: both failure kinds are NoResponse while connecting. -/
theorem test_codes_and_class :
    Ret.code (.ok Response.probeAck) = 0 ∧ Ret.code (.fail (.timeout 3) : Result) = 2
    ∧ connectClass (.malformedFrame .lenFloor) = .noResponse := by decide

/-- Program 4, poll 3: the failure that exceeds the threshold reports link-down. -/
theorem test_link_down_at_third_failure :
    (after (step { testState with
        host := { testHost .connected .awaitPoll with failureStreak := 2 },
        resultPort := some (.fail (.timeout 3)) })).map (fun t => (t.host.failureStreak, t.trace))
      = some (3, [.onLinkDown]) := by
  decide

/-! ## Witnesses: states and operands that meet the hypotheses of the statements -/

theorem bounded_init : RxState.Bounded testCfg.val RxState.init :=
  ⟨by decide, by decide, by decide⟩

theorem live_init : RxState.Live testCfg.val RxState.init :=
  ⟨by decide, by decide, by decide, fun _ => rfl, fun h => (by cases h)⟩

theorem atRest_testState : testState.AtRest := ⟨rfl, rfl, rfl⟩

/-- A host at a place where it awaits nothing meets its invariant. -/
theorem inv_of_host (c : ConnState) (p : HostPhase) (n : Nat) (hc : c = p.connState)
    (hn : n = 0 ∨ (p = .stopped ∧ n = 3)) (hs : p = .stopped → n = 3) (ha : p.awaiting = false) :
    State.Inv { testState with host := { testHost c p with attemptCount := n } } := by
  refine ⟨bounded_init, ⟨fun _ => .inl ⟨rfl, rfl, rfl⟩, fun h => absurd rfl h, fun h => (by cases h),
    fun h => (by rcases h with h | h <;> cases h), fun h => (by cases h), fun h => (by cases h)⟩, ?_⟩
  subst hc
  cases p <;> simp_all [HostPhase.awaiting, HostPhase.connState] <;>
    constructor <;> simp_all [HostPhase.connState, HostPhase.awaiting, testHost, testState, testCfg, testTp]

theorem inv_testState : testState.Inv := inv_of_host .disconnected .start 0 rfl (.inl rfl) (by simp) rfl

/-- A busy PROBE transaction in its last phase. -/
def finishedState : State := { probeState .postFlush with res := some (.ok .probeAck) }

theorem inv_finishedState : finishedState.Inv := by
  have hl : finishedState.Latched := ⟨.probe, rfl, rfl⟩
  have hf : finishedState.Finished := ⟨.probe, .ok .probeAck, rfl, rfl, rfl⟩
  refine ⟨bounded_init, ⟨fun h => (by cases h), fun _ => hl, fun h => (by cases h),
    fun h => (by rcases h with h | h <;> cases h), fun h => (by cases h), fun _ => hf⟩, ?_⟩
  constructor <;> simp [finishedState, probeState, testState, testHost, HostPhase.connState,
    HostPhase.awaiting, testTp]

theorem witness_ChecksumSerialInAnyOrder : ([0x01, 0x02, 0xFF] : List Byte).Perm [0xFF, 0x01, 0x02] := by
  decide

theorem witness_SingleBitFlipRejected : 6 < (encodeFrame 0xD0 [0x00]).length ∧ 7 < 8 := by decide

theorem witness_ShortInputRejected : ([0x10, 0x02, 0x10, 0x03] : List Byte).length < 5 := by decide

theorem witness_FiveByteInputUnique : ([0x10, 0x02, 0x13, 0x10, 0x03] : List Byte).length = 5 := by decide

theorem witness_CommandPayloadRoundTrip : (Instr.setpwr 101).wellFormed = true ∧ Instr.getid.wellFormed = true := by
  decide

theorem witness_DecodeAcceptsExactly :
    decodeFrame [0x10, 0x03, 0xD0, 0xAA, 0x8C, 0x10, 0x03] = .fail (.malformedFrame .badHeader) := by
  decide

/-- Both clauses, at the floor and one below it. -/
theorem witness_StatusFieldsDecoded :
    ([0xEE, 0x48, 0x46, 0x47] : List Byte).length < testCfg.val.statusMinPayloadLen
    ∧ testCfg.val.statusMinPayloadLen ≤ ([0xEE, 0x48, 0x46, 0x47, 0x41] : List Byte).length := by decide

theorem witness_OutOfTurnFrameTakenAsExpected :
    testCfg.val.statusMinPayloadLen ≤ ([0x55, 0x41, 0x42, 0x00, 0x43] : List Byte).length := by decide

theorem witness_ReceiveEndsWithinBound :
    receiveBound testCfg.val ≤ (List.replicate 55 Answer.silence).length := by decide

/-- Both clauses, at the limit and one below it. -/
theorem witness_SilentTransportTimesOut : 2 < testCfg.val.timeoutLimit ∧ testCfg.val.timeoutLimit ≤ 3 := by
  decide

theorem witness_TimeoutCountsAllSilences :
    ∃ r n k, receive testCfg.val [.silence, .byte 0x10, .silence, .silence] = .ended r (.fail (.timeout n)) k :=
  ⟨_, _, _, rfl⟩

/-- Both clauses: noise at the bound, and one more. -/
theorem witness_ResynchronisesAfterNoise :
    (∀ n ∈ [20, 21],
      marker ∉ List.replicate n (0x41 : Byte)
      ∧ bytesOf (.silence :: (List.replicate n (0x41 : Byte) ++ encodeFrame 0xD0 [0xAA]).map .byte)
          = List.replicate n 0x41 ++ encodeFrame 0xD0 [0xAA]
      ∧ (Answer.silence :: (List.replicate n (0x41 : Byte) ++ encodeFrame 0xD0 [0xAA]).map .byte).count .silence
          < testCfg.val.timeoutLimit)
    ∧ (encodeFrame 0xD0 [0xAA]).length ≤ testCfg.val.maxFrameLen
    ∧ (∀ k < 5, memRead (encodeFrame 0xD0 [0xAA]) k 2 ≠ footerBytes)
    ∧ (List.replicate 20 (0x41 : Byte)).length ≤ testCfg.val.noiseBound
    ∧ testCfg.val.noiseBound < (List.replicate 21 (0x41 : Byte)).length := by
  decide

theorem witness_ReceivedFrameEndsAtFirstFooter :
    ∃ r raw k, receive testCfg.val ((0x41 :: ackFrame).map .byte) = .ended r (.ok raw) k :=
  ⟨_, _, _, rfl⟩

theorem witness_EarlyFooterCutsTheFrame :
    let f := encodeFrame 0xD0 [0xEE, 0x10, 0x03, 0x47, 0x41]
    f.head? = some marker ∧ 4 + 2 ≤ f.length ∧ 4 + 2 ≤ testCfg.val.maxFrameLen
    ∧ memRead f 4 2 = footerBytes ∧ (∀ k < 4, memRead f k 2 ≠ footerBytes) := by
  decide

theorem witness_LengthTestBeforeFooterTest :
    let r : RxState := { RxState.init with unsynced := false, buf := List.replicate 32 0x10 }
    r.unsynced = false ∧ r.buf.length = testCfg.val.maxFrameLen := by
  decide

theorem witness_CommandsAcceptedAtIdle : testState.pc = .idle := rfl

theorem witness_PowerOutOfRangeRefused :
    testState.pc = .idle ∧ ((-1 : Int) < 0 ∨ 101 < (-1 : Int)) ∧ ((102 : Int) < 0 ∨ 101 < (102 : Int)) := by
  decide

theorem witness_BusyBlockIgnoresOffers :
    (probeState .validate).pc ≠ .idle ∧ (probeState .validate).resetIn = false := by decide

/-- Every clause: a next state in each phase, the receiver unsynced with an empty buffer; in RECEIVE the
answers are a silence, a noise byte and the marker. -/
theorem witness_CommandStepFrame :
    ∀ p ∈ [Phase.idle, .preFlush, .send, .receive, .validate, .dispatch, .postFlush],
      ∀ tin ∈ [[], [0x41], [0x10]],
        continues (exec .getid { probeState p with tp := { testTp [] with tin := tin } }) = true := by
  decide

/-- The same with the receiver synced: a byte is stored at address 1. -/
theorem witness_CommandStepFrame_synced :
    (after (exec .getid { probeState .receive with
        rx := { RxState.init with unsynced := false, buf := [0x10] },
        tp := { testTp [] with tin := [0x02] } })).map
        (fun t => memByte t.rx.buf 1) = some (some 0x02) := by
  decide

theorem witness_StepRunsOfferedCommand :
    ({ testState with port := some .getid } : State).resetIn = false
    ∧ decodeTableWord 16 0x1132 = some (.setpwr 50) := by decide

theorem witness_PhaseTransitions :
    ∀ p ∈ [Phase.preFlush, .send, .receive, .validate, .dispatch, .postFlush],
      p ≠ .idle ∧ continues (sequence (probeState p)) = true := by
  decide

/-- All three clauses: the receiver goes on, returns a frame, and fails. -/
theorem witness_ReceiveRunsOneArm :
    let s := probeState .receive
    s.pc = .receive ∧ s.tp.isOpen = true ∧ s.tp.rxEvent = some (.silence, s.tp)
    ∧ (∃ r, rxStep s.cfg.val s.rx .silence = .more r)
    ∧ (∃ r raw, rxStep s.cfg.val { s.rx with unsynced := false, buf := [0x10] } (.byte 0x03) = .done r (.ok raw))
    ∧ (∃ r e, rxStep s.cfg.val { s.rx with timeoutCnt := 2 } .silence = .done r (.fail e)) :=
  ⟨rfl, rfl, rfl, ⟨_, rfl⟩, ⟨_, _, rfl⟩, ⟨_, _, rfl⟩⟩

theorem witness_FlushThenWrite :
    (probeState .preFlush).pc = .preFlush ∧ (probeState .preFlush).tp.isOpen = true
    ∧ (probeState .preFlush).port = none ∧ (probeState .preFlush).resetIn = false
    ∧ (probeState .preFlush).txFrame = some [0x10, 0x02, 0xD0, 0x00, 0xE2, 0x10, 0x03] := by decide

/-- Both clauses: a buffer DECODE accepts, and the empty one. -/
theorem witness_ValidateRunsDecode :
    decodeFrame ackFrame = .ok { dest := 0xD0, payload := [0xAA] }
    ∧ decodeFrame (probeState .validate).rx.buf = .fail (.malformedFrame .lenFloor) := by decide

/-- The decoder that can fail, failing. -/
theorem witness_DispatchDecodesByLatchedCommand :
    ({ probeState .dispatch with cmd := some (.setpwr 50) } : State).cmd = some (.setpwr 50)
    ∧ decodeResp testCfg.val (.setpwr 50) (framePayload ackFrame) = .fail (.malformedFrame .statusShort) := by
  decide

theorem witness_CompletionDeliversResult :
    finishedState.pc = .postFlush ∧ finishedState.tp.isOpen = true
    ∧ finishedState.res = some (.ok .probeAck) := by decide

/-- One step for each clause; a byte that arrives in VALIDATE stays in the input buffer. -/
theorem witness_HalfDuplex :
    (after (step (probeState .send))).map (fun t => t.trace.map Action.isTx) = some [true]
    ∧ (after (step { probeState .receive with tp := testTp [.arrive []] })).map
        (fun t => t.trace.map Action.isRx) = some [true]
    ∧ (after (step { probeState .validate with tp := { testTp [.arrive [0x41]] with tin := [0x40] } })).map
        (fun t => t.tp.tin) = some [0x40, 0x41]
    ∧ (after (step (probeState .preFlush))).map (fun t => t.trace.map Action.isFlush) = some [true, true] := by
  decide

theorem witness_TransactionRefinesExecute :
    testState.AtRest ∧ testState.tp.reliable = true ∧ taken (.setpwr 101) = some (.setpwr 101) :=
  ⟨atRest_testState, by decide, by decide⟩

/-- Two machines with different pasts and the same answers to come. -/
theorem witness_ResultIndependentOfHistory :
    let s : State := { testState with tp := testTp (List.replicate 57 (.arrive [])) }
    let s' : State := { s with cmd := some .getid, res := some (.fail (.timeout 3)),
                               tp := { s.tp with tin := [0xFF] } }
    s.AtRest ∧ s'.AtRest ∧ s.tp.reliable = true ∧ s'.tp.reliable = true ∧ s.cfg = s'.cfg
    ∧ (Transport.answers (receiveBound s.cfg.val) (s.tp.atReceive (commandFrame s.cfg.val .probe))).map
        Prod.fst = some (List.replicate 55 .silence)
    ∧ (Transport.answers (receiveBound s.cfg.val) (s'.tp.atReceive (commandFrame s.cfg.val .probe))).map
        Prod.fst = some (List.replicate 55 .silence) :=
  ⟨⟨rfl, rfl, rfl⟩, ⟨rfl, rfl, rfl⟩, by decide, by decide, rfl, by decide, by decide⟩

theorem witness_DeliveredResultIsAllowed :
    finishedState.Inv ∧ finishedState.resetIn = false ∧ finishedState.pc = .postFlush
    ∧ ∃ t, step finishedState = .next t :=
  ⟨inv_finishedState, rfl, rfl, _, rfl⟩

theorem witness_EveryStepKeepsInv : testState.Inv ∧ ∃ t, step testState = .next t :=
  ⟨inv_testState, _, rfl⟩

/-- The configuration clause for a configuration that is not valid. -/
theorem witness_ConfigurationIsFixed :
    ¬ Config.Valid { testCfg.val with maxFrameLen := 5 } ∧ ∃ t, step testState = .next t :=
  ⟨by decide, _, rfl⟩

theorem witness_BlockIgnoresHostRegisters :
    (∃ t, step { testState with port := some .probe } = .next t)
    ∧ (∃ t, step (probeState .validate) = .next t) ∧ (probeState .validate).pc ≠ .idle
    ∧ (probeState .validate).resetIn = false ∧ testState.resetIn = false :=
  ⟨⟨_, rfl⟩, ⟨_, rfl⟩, by decide, rfl, rfl⟩

/-- Both stops occur. -/
theorem witness_StopsOnlyOnBrokenTransport :
    step { probeState .receive with tp := testTp [.stopped] } = .fault .transportStopped
    ∧ step { probeState .send with tp := { testTp [] with isOpen := false } } = .refused .transportNotOpen :=
  ⟨rfl, rfl⟩

/-- All three clauses. -/
theorem witness_AttemptIsProbeThenGetid :
    testState.AtRest ∧ testState.host.phase = .start
    ∧ State.AtRest { testState with host := testHost .connecting .awaitProbe,
                                    resultPort := some (.ok .probeAck) }
    ∧ State.AtRest { testState with host := testHost .connecting .awaitProbe,
                                    resultPort := some (.fail (.timeout 3)) } :=
  ⟨atRest_testState, rfl, ⟨rfl, rfl, rfl⟩, ⟨rfl, rfl, rfl⟩⟩

/-- Both clauses: the attempt that reaches the cap, and one that does not. -/
theorem witness_FailedAttemptCountsOnce :
    let s : State := { testState with host := { testHost .connecting .awaitIdentity with attemptCount := 2 },
                                      resultPort := some (.fail (.timeout 3)) }
    s.AtRest ∧ s.host.phase = .awaitIdentity ∧ s.cfg.val.attemptCap ≠ 0
    ∧ s.host.attemptCount + 1 = s.cfg.val.attemptCap ∧ 0 + 1 ≠ s.cfg.val.attemptCap :=
  ⟨⟨rfl, rfl, rfl⟩, rfl, by decide, by decide, by decide⟩

theorem witness_IdentityConnects :
    let s : State := { testState with host := testHost .connecting .awaitIdentity,
                                      resultPort := some (.ok (.identity [])) }
    s.AtRest ∧ s.host.phase = .awaitIdentity ∧ s.resultPort = some (.ok (.identity [])) :=
  ⟨⟨rfl, rfl, rfl⟩, rfl, rfl⟩

theorem witness_CapStopsTheEngine :
    let s : State := { testState with tp := testTp (List.replicate 27 (.arrive [])) }
    s.AtRest ∧ s.host.phase = .start ∧ s.cfg.val.attemptCap ≠ 0 ∧ s.tp.isOpen = true
    ∧ s.tp.answering = true ∧ s.tp.line = List.replicate 27 (.arrive [])
    ∧ s.cfg.val.attemptCap * (s.cfg.val.timeoutLimit + 6) ≤ 27 :=
  ⟨⟨rfl, rfl, rfl⟩, rfl, by decide, rfl, rfl, rfl, by decide⟩

theorem witness_CantConnectIsTerminal :
    let s : State := { testState with host := { testHost .cantConnect .stopped with attemptCount := 3 } }
    s.Inv ∧ s.host.connState = .cantConnect ∧ s.resetIn = false ∧ ∃ t, step s = .next t :=
  ⟨inv_of_host .cantConnect .stopped 3 rfl (.inr ⟨rfl, rfl⟩) (fun _ => rfl) rfl, rfl, rfl, _, rfl⟩

theorem witness_ConnectedStaysConnected :
    let s : State := { testState with host := { testHost .connected .gapPoll with attemptCount := 0 } }
    s.Inv ∧ s.host.connState = .connected ∧ s.resetIn = false ∧ ∃ t, step s = .next t ∧ t.port.isSome = true :=
  ⟨inv_of_host .connected .gapPoll 0 rfl (.inl rfl) (by simp) rfl, rfl, rfl, _, rfl, rfl⟩

/-- Both clauses: a script with a value, and the empty script. -/
theorem witness_PollOffersCurrentPower :
    let s : State := { testState with host := { testHost .connected .gapPoll with powers := [50, 102] } }
    s.AtRest ∧ s.host.phase = .gapPoll ∧ s.host.powers = 50 :: [102]
    ∧ (testHost .connected .gapPoll).powers = [] :=
  ⟨⟨rfl, rfl, rfl⟩, rfl, rfl, rfl⟩

theorem witness_SuccessfulPollReports :
    let s : State := { testState with host := testHost .connected .awaitPoll,
                                      resultPort := some (.ok (.operationalStatus default)) }
    s.AtRest ∧ s.host.phase = .awaitPoll ∧ s.resultPort = some (.ok (.operationalStatus default)) :=
  ⟨⟨rfl, rfl, rfl⟩, rfl, rfl⟩

theorem witness_FailedPollCounts :
    let s : State := { testState with host := testHost .connected .awaitPoll,
                                      resultPort := some (.fail (.timeout 3)) }
    s.AtRest ∧ s.host.phase = .awaitPoll ∧ s.resultPort = some (.fail (.timeout 3)) :=
  ⟨⟨rfl, rfl, rfl⟩, rfl, rfl⟩

theorem witness_LinkDownOncePerStreak : (testHost .connected .awaitPoll).failureStreak = 0 := rfl

/-- A run of one step from rest before a poll. -/
theorem witness_LinkDownOncePerRunOfFailedPolls :
    let s : State := { testState with host := testHost .connected .gapPoll }
    s.AtRest ∧ s.host.phase = .gapPoll ∧ s.host.failureStreak = 0
    ∧ ∃ t, Host.Core.run Sys2Proof.core 1 s = .next t ∧ t.trace = [.wait 2] :=
  ⟨⟨rfl, rfl, rfl⟩, rfl, rfl, _, rfl, rfl⟩

/-- Each clause with a hypothesis. -/
theorem witness_FailureClassesAndCodes :
    Failure.kind .cantConnect ≠ .timeout ∧ Failure.kind .cantConnect ≠ .malformedFrame
    ∧ resultAllowed testCfg.val .probe (.fail (.timeout 3)) = true
    ∧ resultAllowed testCfg.val .getid (.fail (.malformedFrame .badChecksum)) = true
    ∧ FailureKind.code .timeout = 2 ∧ Cause.code .badFooter = 5 := by decide

theorem witness_OffersKeepTheirDistance :
    let s : State := { testState with host := testHost .connecting .gapIdentify }
    s.AtRest ∧ s.host.phase ≠ .start ∧ ∃ t, step s = .next t ∧ t.port = some .getid :=
  ⟨⟨rfl, rfl, rfl⟩, by decide, _, rfl, rfl⟩

/-- Busy and idle. -/
theorem witness_ResetInputRestores :
    ({ probeState .receive with resetIn := true } : State).resetIn = true
    ∧ ({ testState with resetIn := true } : State).pc = .idle := by decide

/-- Both clauses. -/
theorem witness_ReadTakesOldestByte :
    ({ testTp [] with tin := [0x10, 0x02] } : Transport).tin = 0x10 :: [0x02]
    ∧ ({ testTp [] with tin := [0x10, 0x02] } : Transport).answering = true
    ∧ (testTp []).tin = [] ∧ (testTp []).answering = true := by decide

/-- Both parts: a host that is about to open the transport, and one past it. -/
theorem witness_HostOpensTransportOnce :
    let s : State := { testState with tp := { testTp [] with isOpen := false },
                                      host := testHost .disconnected .opening }
    s.AtRest ∧ s.host.phase = .opening ∧ testState.Inv ∧ testState.host.phase ≠ .opening
    ∧ ∃ t, step testState = .next t :=
  ⟨⟨rfl, rfl, rfl⟩, rfl, inv_testState, by decide, _, rfl⟩

end Sys2Proof.Tests
end

-- ==== The command decoder, length by length ====
section
/-! PROOFS. Which byte sequences the command decoder accepts (30_encoding R97), said once per length
of the input, and the opcode byte that leads each payload. -/

namespace Sys2Proof

/-- The empty input is rejected. -/
theorem decode_nil_ne_ok (i : Instr) : decode [] ≠ .ok i := nofun

/-- The one command of one byte is PROBE. -/
theorem decode_singleton_eq_ok_iff (op : Byte) (i : Instr) :
    decode [op] = .ok i ↔ op = opProbe ∧ i = .probe := by
  simp only [decode]
  split
  case isTrue hProbe => simp [hProbe, eq_comm]
  case isFalse hProbe => split <;> simp [hProbe]

/-- The two commands of two bytes: GETID with its fixed byte, SETPWR with its operand in range. -/
theorem decode_pair_eq_ok_iff (op x : Byte) (i : Instr) :
    decode [op, x] = .ok i ↔
      (op = opGetid ∧ x = opGetidFixed ∧ i = .getid)
      ∨ (op = opSetpwr ∧ x.toNat ≤ operandMax ∧ i = .setpwr x.toNat) := by
  have hApart : opGetid ≠ opSetpwr := by decide
  simp only [decode]
  by_cases hGetid : op = opGetid
  · by_cases hFixed : x = opGetidFixed <;> simp [hGetid, hFixed, hApart, eq_comm]
  by_cases hSetpwr : op = opSetpwr
  · by_cases hRange : x.toNat ≤ operandMax <;> simp [hSetpwr, hRange, hApart.symm, eq_comm]
  rw [if_neg hGetid, if_neg hSetpwr]
  split <;> simp [hGetid, hSetpwr]

/-- Three bytes or more are rejected, whatever their opcode. -/
theorem decode_long_ne_ok (op x y : Byte) (rest : List Byte) (i : Instr) :
    decode (op :: x :: y :: rest) ≠ .ok i := by
  simp only [decode]
  split <;> nofun

/-- R97 in full: the accepted inputs, each with the command it gives. -/
theorem decode_eq_ok_iff (bs : List Byte) (i : Instr) :
    decode bs = .ok i ↔
      (bs = [opProbe] ∧ i = .probe) ∨ (bs = [opGetid, opGetidFixed] ∧ i = .getid)
      ∨ (∃ x : Byte, x.toNat ≤ operandMax ∧ bs = [opSetpwr, x] ∧ i = .setpwr x.toNat) := by
  match bs with
  | [] => simp [decode_nil_ne_ok]
  | [op] => simp [decode_singleton_eq_ok_iff]
  | [op, x] => simp [decode_pair_eq_ok_iff, and_assoc, and_left_comm]
  | op :: x :: y :: rest => simp [decode_long_ne_ok]

namespace Machine

/-- Each of the three opcodes leads a payload, SETPWR's at any power, and no other byte does. -/
theorem exists_payloadOf_head_iff (op : Byte) :
    (∃ c : Command, (payloadOf c).head? = some op) ↔ op = opProbe ∨ op = opSetpwr ∨ op = opGetid := by
  constructor
  · rintro ⟨c, hHead⟩
    cases c with
    | probe => exact .inl (Option.some.inj hHead).symm
    | getid => exact .inr (.inr (Option.some.inj hHead).symm)
    | setpwr p => exact .inr (.inl (Option.some.inj hHead).symm)
  · rintro (rfl | rfl | rfl)
    · exact ⟨.probe, rfl⟩
    · exact ⟨.setpwr 0, rfl⟩
    · exact ⟨.getid, rfl⟩

end Machine

/-- Settles O9: the decoder's accepted inputs, length by length, and the opcode of each command. -/
theorem payloadDecoderTellsCommandsApart : Obligations.PayloadDecoderTellsCommandsApart :=
  ⟨decode_eq_ok_iff, Machine.exists_payloadOf_head_iff⟩

end Sys2Proof
end

-- ==== The length floor of the frame decoder ====
section
/-! PROOFS. The first of DECODE's four tests (40_frame_codec R126), which no content can get past. -/

namespace Sys2Proof.Machine

/-- R126: under the length floor the first test decides, before any byte is read. -/
theorem decodeFrame_of_length_lt_lenFloor {raw : List Byte} (hShort : raw.length < lenFloor) :
    decodeFrame raw = .fail (.malformedFrame .lenFloor) :=
  if_pos hShort

/-- Settles O5: the length test fails, with the length floor as its cause. -/
theorem shortInputRejected : Obligations.ShortInputRejected :=
  fun _ hShort => ⟨.lenFloor, decodeFrame_of_length_lt_lenFloor hShort⟩

end Sys2Proof.Machine
end

-- ==== The status decoder ====
section
/-! PROOFS. DECODE_STATUS on either side of its floor (41_commands R147), and why the floor makes all
four reads real ones (R148). -/

namespace Sys2Proof.Machine

/-- Inside the payload the read is a byte that is there, and never the default. -/
theorem memByte_eq_some_payloadByte {payload : List Byte} {off : Nat} (hOff : off < payload.length) :
    memByte payload off = some (payloadByte payload off) := by
  simp [payloadByte, memByte, hOff]

/-- R148: in a valid configuration the floor lies above all four offsets. -/
theorem statusOffsets_lt_length (cfg : ValidConfig) {payload : List Byte}
    (hFloor : cfg.val.statusMinPayloadLen ≤ payload.length) :
    cfg.val.offPhSp < payload.length ∧ cfg.val.offPhCur < payload.length
    ∧ cfg.val.offOutSp < payload.length ∧ cfg.val.offOutCur < payload.length := by
  obtain ⟨-, -, -, ⟨hPhSp, hOutSp, hPhCur, hOutCur⟩, -⟩ := cfg.property
  exact ⟨hPhSp.trans_le hFloor, hPhCur.trans_le hFloor, hOutSp.trans_le hFloor, hOutCur.trans_le hFloor⟩

theorem decodeStatus_of_lt_floor {cfg : Config} {payload : List Byte}
    (hShort : payload.length < cfg.statusMinPayloadLen) :
    decodeStatus cfg payload = .fail (.malformedFrame .statusShort) :=
  if_pos hShort

theorem decodeStatus_of_floor_le {cfg : Config} {payload : List Byte}
    (hFloor : cfg.statusMinPayloadLen ≤ payload.length) :
    decodeStatus cfg payload = .ok (.operationalStatus (statusOf cfg payload)) :=
  if_neg hFloor.not_gt

/-- The decoder of SETPWR is DECODE_STATUS, whatever the power. -/
theorem decodeResp_setpwr (cfg : Config) (q : Fin 102) (payload : List Byte) :
    decodeResp cfg (.setpwr q) payload = decodeStatus cfg payload := rfl

/-- Settles O14: under the floor the length test fails; from the floor on, the four bytes exist and
`statusOf` scales each of them. -/
theorem statusFieldsDecoded : Obligations.StatusFieldsDecoded := by
  intro cfg q payload
  rw [decodeResp_setpwr]
  refine ⟨decodeStatus_of_lt_floor, fun hFloor => ?_⟩
  obtain ⟨hPhSp, hPhCur, hOutSp, hOutCur⟩ := statusOffsets_lt_length cfg hFloor
  exact ⟨statusOf cfg.val payload, _, _, _, _, decodeStatus_of_floor_le hFloor,
    memByte_eq_some_payloadByte hPhSp, memByte_eq_some_payloadByte hPhCur,
    memByte_eq_some_payloadByte hOutSp, memByte_eq_some_payloadByte hOutCur, rfl, rfl, rfl, rfl⟩

end Sys2Proof.Machine
end

-- ==== Taking a command at IDLE ====
section
/-! PROOFS. What the port admits, what each command's frame is, and the first step of a transaction
(43_transaction_driver R181 (b), R182). -/

namespace Sys2Proof.Machine

/-- The port admits every power of the register's range, as it is (41_commands R146). -/
theorem powerOperand_natCast (q : Fin 102) : powerOperand (q.val : Int) = some q := by
  obtain ⟨r, hr⟩ : ∃ r, powerOperand (q.val : Int) = some r :=
    Option.isSome_iff_exists.mp ((powerOperand_isSome _).mpr (by omega))
  have hVal : (r.val : Int) = q.val := powerOperand_eq_some hr
  rw [hr, Fin.ext (Int.ofNat.inj hVal)]

/-- The block takes every command that the latch can hold for itself. -/
theorem taken_instr (c : Command) : taken c.instr = some c := by
  cases c with
  | probe => rfl
  | getid => rfl
  | setpwr q => simp [taken, Command.instr, powerOperand_natCast]

/-- At IDLE a command is latched, encoded, and PRE_FLUSH comes next; it writes nothing else. -/
theorem exec_instr_of_idle (c : Command) {s : State} (hIdle : s.pc = .idle) :
    exec c.instr s = .next { s with cmd := some c, pc := .preFlush,
                                    txFrame := some (commandFrame s.cfg.val c) } := by
  rw [exec_eq_offer, taken_instr, offer_idle_some hIdle, accept_eq]

theorem commandFrame_probe (cfg : Config) : commandFrame cfg .probe = encodeFrame cfg.dest [0x00] := rfl

theorem commandFrame_getid (cfg : Config) : commandFrame cfg .getid = encodeFrame cfg.dest [0x14, 0x01] :=
  rfl

/-- SETPWR's second payload byte is its power (30_encoding R94). -/
theorem commandFrame_setpwr (cfg : Config) (q : Fin 102) :
    commandFrame cfg (.setpwr q) = encodeFrame cfg.dest [0x11, BitVec.ofNat 8 q.val] := by
  simp [commandFrame, payloadOf, Command.instr, encode, opSetpwr]

/-- Settles O24: the one first step of all commands, with each command's frame written out. -/
theorem commandsAcceptedAtIdle : Obligations.CommandsAcceptedAtIdle := by
  intro s hIdle
  refine ⟨⟨?_, encodeFrame_length _ _⟩, ⟨?_, encodeFrame_length _ _⟩,
    fun q => ⟨?_, encodeFrame_length _ _⟩⟩
  · rw [← commandFrame_probe]
    exact exec_instr_of_idle .probe hIdle
  · rw [← commandFrame_getid]
    exact exec_instr_of_idle .getid hIdle
  · rw [← commandFrame_setpwr]
    exact exec_instr_of_idle (.setpwr q) hIdle

end Sys2Proof.Machine
end

-- ==== VALIDATE and DISPATCH ====
section
/-! PROOFS. The two phases that judge a received frame (43_transaction_driver R186, R187), and the one
kind of failure they can find. -/

namespace Sys2Proof.Machine

/-- Each of the four tests of DECODE fails with MalformedFrame (40_frame_codec R125). -/
theorem malformedFrame_of_decodeFrame_fail {raw : List Byte} {e : Failure}
    (hFail : decodeFrame raw = .fail e) : ∃ cause, e = .malformedFrame cause := by
  rcases decodeFrame_cases raw with ⟨_, h⟩ | ⟨_, _, h⟩ | ⟨_, _, _, h⟩ | ⟨_, _, _, _, h⟩ | ⟨_, _, _, _, h⟩ <;>
    rw [h] at hFail <;> cases hFail <;> exact ⟨_, rfl⟩

/-- Only the status decoder can fail, and its failure is a MalformedFrame (41_commands R147). -/
theorem malformedFrame_of_decodeResp_fail {cfg : Config} {c : Command} {payload : List Byte} {e : Failure}
    (hFail : decodeResp cfg c payload = .fail e) : ∃ cause, e = .malformedFrame cause := by
  rcases decodeResp_cases cfg c payload with ⟨_, h⟩ | ⟨_, h⟩ | ⟨_, _, _, h⟩ | ⟨_, _, _, h⟩ <;>
    rw [h] at hFail <;> cases hFail
  exact ⟨_, rfl⟩

theorem sequence_of_validate {s : State} (hPhase : s.pc = .validate) :
    sequence s = .next (validateStep s) := by
  simp [sequence, hPhase]

theorem sequence_of_dispatch {s : State} (hPhase : s.pc = .dispatch) :
    sequence s = .next (dispatchStep s) := by
  simp [sequence, hPhase]

theorem validateStep_of_ok {s : State} {f : Frame} (hOk : decodeFrame s.rx.buf = .ok f) :
    validateStep s = { s with pc := .dispatch } := by
  rw [validateStep_eq, hOk]

theorem validateStep_of_fail {s : State} {e : Failure} (hFail : decodeFrame s.rx.buf = .fail e) :
    validateStep s = { s with res := some (.fail e), pc := .postFlush } := by
  rw [validateStep_eq, hFail]

/-- Settles O32: the two answers of DECODE, each with the state it leads to. -/
theorem validateRunsDecode : Obligations.ValidateRunsDecode := by
  intro s hPhase
  rw [sequence_of_validate hPhase]
  refine ⟨fun f hOk => ?_, fun e hFail => ⟨malformedFrame_of_decodeFrame_fail hFail, ?_⟩⟩
  · rw [validateStep_of_ok hOk]
  · rw [validateStep_of_fail hFail]

/-- Settles O33: the latched command is the one DISPATCH reads, and its decoder's outcome the result. -/
theorem dispatchDecodesByLatchedCommand : Obligations.DispatchDecodesByLatchedCommand := by
  intro s c hPhase hLatched
  refine ⟨?_, fun _ hFail => malformedFrame_of_decodeResp_fail hFail⟩
  rw [sequence_of_dispatch hPhase, dispatchStep_eq, State.readCmd_of_some hLatched, State.conf_eq]

end Sys2Proof.Machine
end


-- ==== The block and the host's registers ====
section
/-! PROOFS. The block commutes with every change of the host's registers (44_host_lifecycle R202), and
what every step of the block leaves alone: the host, the command port, and the actions that are not the
block's own. -/

namespace Sys2Proof.Machine

/-! ## The block under a change of the host's registers -/

theorem receiveAnswer_setHost (s : State) (h : HostState) (a : Answer) :
    receiveAnswer (s.setHost h) a = (receiveAnswer s a).setHost h := by
  simp only [receiveAnswer, State.conf_eq, State.setHost_cfg, State.setHost_rx]
  cases rxStep s.cfg.val s.rx a with
  | more r => rfl
  | done r o => cases o <;> rfl

theorem receiveStep_setHost (s : State) (h : HostState) :
    receiveStep (s.setHost h) = mapNext (·.setHost h) (receiveStep s) := by
  simp only [receiveStep, State.setHost_tp]
  cases s.tp.rxEvent with
  | none => rfl
  | some au =>
    obtain ⟨a, u⟩ := au
    exact congrArg Host.Outcome.next (receiveAnswer_setHost ((s.setTp u).log (.rxEvent a)) h a)

theorem validateStep_setHost (s : State) (h : HostState) :
    validateStep (s.setHost h) = (validateStep s).setHost h := by
  simp only [validateStep, State.setHost_rx]
  cases decodeFrame s.rx.buf <;> rfl

theorem dispatchStep_setHost (s : State) (h : HostState) :
    dispatchStep (s.setHost h) = (dispatchStep s).setHost h := by
  rw [dispatchStep_eq, dispatchStep_eq]
  rfl

theorem onTransport_setHost {k : State → Step} (s : State) (h : HostState)
    (hk : k (s.setHost h) = mapNext (·.setHost h) (k s)) :
    onTransport (s.setHost h) k = mapNext (·.setHost h) (onTransport s k) := by
  simp only [onTransport, State.setHost_tp, hk]
  split <;> rfl

/-- The sequencer, phase by phase. -/
theorem sequence_setHost (s : State) (h : HostState) :
    sequence (s.setHost h) = mapNext (·.setHost h) (sequence s) := by
  simp only [sequence, State.setHost_pc]
  cases s.pc with
  | idle => rfl
  | preFlush => exact onTransport_setHost s h rfl
  | send => exact onTransport_setHost s h rfl
  | receive => exact onTransport_setHost s h (receiveStep_setHost s h)
  | validate => exact congrArg Host.Outcome.next (validateStep_setHost s h)
  | dispatch => exact congrArg Host.Outcome.next (dispatchStep_setHost s h)
  | postFlush => exact onTransport_setHost s h rfl

theorem offer_setHost (c : Option Command) (s : State) (h : HostState) :
    offer c (s.setHost h) = mapNext (·.setHost h) (offer c s) := by
  by_cases hIdle : s.pc = .idle
  · cases c with
    | some c => rw [offer_idle_some hIdle, offer_idle_some (by simpa using hIdle)]; rfl
    | none => rw [offer_idle_none hIdle, offer_idle_none (by simpa using hIdle)]; rfl
  · rw [offer_busy hIdle, offer_busy (by simpa using hIdle), sequence_setHost]

theorem exec_setHost (i : Instr) (s : State) (h : HostState) :
    exec i (s.setHost h) = mapNext (·.setHost h) (exec i s) := by
  rw [exec_eq_offer, exec_eq_offer, offer_setHost]

/-! ## The frame of a step of the block -/

/-- The actions the block itself makes (43_transaction_driver R191). -/
def Action.ofBlock : Action → Bool
  | .openTransport _ => false
  | .flushIn => true
  | .flushOut => true
  | .txWrite _ => true
  | .rxEvent _ => true
  | .result _ => true
  | .wait _ => false
  | .onConnected _ => false
  | .onTelemetry _ => false
  | .onLinkUp => false
  | .onLinkDown => false

/-- The block calls no callback (44_host_lifecycle R203). -/
theorem Action.isCallback_of_ofBlock {a : Action} (ha : a.ofBlock = true) : a.isCallback = false := by
  cases a <;> simp_all [Action.ofBlock, Action.isCallback]

/-- What a step of the block keeps: the host's registers, the command port, and the output history but
for actions of its own behind it. -/
structure State.BlockFrame (s t : State) : Prop where
  host : t.host = s.host
  port : t.port = s.port
  actions : ∃ acts, t.trace = s.trace ++ acts ∧ ∀ a ∈ acts, a.ofBlock = true

/-- The frame from the equation of the trace, with the actions written out. -/
theorem State.BlockFrame.of_trace {s t : State} (acts : List Action) (hHost : t.host = s.host)
    (hPort : t.port = s.port) (hTrace : t.trace = s.trace ++ acts)
    (hActs : acts.all Action.ofBlock = true) : s.BlockFrame t :=
  ⟨hHost, hPort, acts, hTrace, List.all_eq_true.mp hActs⟩

/-- An answer is judged in the block's registers alone. -/
theorem receiveAnswer_frame (s : State) (a : Answer) :
    (receiveAnswer s a).host = s.host ∧ (receiveAnswer s a).port = s.port
    ∧ (receiveAnswer s a).trace = s.trace := by
  rw [receiveAnswer_eq]
  split <;> exact ⟨rfl, rfl, rfl⟩

theorem sequence_frame {s t : State} (hNext : sequence s = .next t) : s.BlockFrame t := by
  rcases sequence_next_cases hNext with
    ⟨-, rfl⟩ | ⟨-, -, rfl⟩ | ⟨-, -, rfl⟩ | ⟨-, -, a, u, -, rfl⟩ | ⟨-, rfl⟩ | ⟨-, rfl⟩ | ⟨-, -, rfl⟩
  · exact .of_trace [] rfl rfl (List.append_nil _).symm rfl
  · rw [preFlushStep_eq]
    exact .of_trace [.flushIn, .flushOut] rfl rfl rfl rfl
  · rw [sendStep_eq]
    exact .of_trace [.txWrite s.readTxFrame] rfl rfl rfl rfl
  · obtain ⟨hHost, hPort, hTrace⟩ := receiveAnswer_frame ((s.setTp u).log (.rxEvent a)) a
    exact .of_trace [.rxEvent a] hHost hPort hTrace rfl
  · rw [validateStep_eq]
    split <;> exact .of_trace [] rfl rfl (List.append_nil _).symm rfl
  · rw [dispatchStep_eq]
    exact .of_trace [] rfl rfl (List.append_nil _).symm rfl
  · rw [State.complete_eq]
    exact .of_trace [.flushIn, .flushOut, .result s.readRes] rfl rfl rfl rfl

theorem exec_frame {i : Instr} {s t : State} (hNext : exec i s = .next t) : s.BlockFrame t := by
  rw [exec_eq_offer] at hNext
  rcases offer_next_cases hNext with ⟨-, c, -, rfl⟩ | ⟨-, -, rfl⟩ | ⟨-, hSeq⟩
  · exact .of_trace [] rfl rfl (List.append_nil _).symm rfl
  · exact .of_trace [.result _] rfl rfl rfl rfl
  · exact sequence_frame hSeq

/-- A step without reset in which the block acts: it keeps the host, and the port is empty behind it. -/
theorem step_frame_of_block {s t : State} (hNext : step s = .next t) (hNoReset : s.resetIn = false)
    (hBlock : s.pc ≠ .idle ∨ s.port ≠ none) : (s.setPort none).BlockFrame t := by
  rcases step_next_cases hNext with
    ⟨hReset, -⟩ | ⟨-, i, -, hExec⟩ | ⟨-, hPort, -, hSeq⟩ | ⟨-, hPort, hIdle, -⟩
  · simp [hNoReset] at hReset
  · obtain ⟨hHost, hPort, hActs⟩ := exec_frame hExec
    exact ⟨hHost, hPort, hActs⟩
  · obtain ⟨hHost, hKept, hActs⟩ := sequence_frame hSeq
    exact ⟨hHost, hKept.trans hPort, hActs⟩
  · exact (hBlock.elim (· hIdle) (· hPort)).elim

/-- Settles O42: the block commutes with a change of the host's registers, and its own steps keep
them. -/
theorem blockIgnoresHostRegisters : Obligations.BlockIgnoresHostRegisters :=
  ⟨fun i s h => ⟨exec_setHost i s h, sequence_setHost s h⟩,
    fun _ _ hNext hNoReset hBlock => (step_frame_of_block hNext hNoReset hBlock).host⟩

end Sys2Proof.Machine
end

-- ==== The host's step at rest, place by place ====
section
/-! PROOFS. What the host's step is at each place of the lifecycle (44_host_lifecycle R216), and from it
the connect attempt (R205), its success (R207) and the failed poll (R212). -/

namespace Sys2Proof.Machine

/-- At rest the step is the host's, once the line has moved. -/
theorem step_of_atRest {s : State} (hRest : s.AtRest) : step s = .next (hostStep s.lineMoves) := by
  rw [step_host hRest.noReset hRest.noCommand hRest.idle, State.lineMoves_idle hRest.idle]

/-! ## One equation for each place -/

theorem hostStep_of_start {s : State} (hPhase : s.host.phase = .start) : hostStep s = connectStart s := by
  simp only [hostStep, hPhase]

theorem hostStep_of_awaitProbe {s : State} {r : Result} (hPhase : s.host.phase = .awaitProbe)
    (hResult : s.resultPort = some r) : hostStep s = probeResult (s.setResultPort none) r := by
  simp only [hostStep, hPhase, onResult, hResult]

theorem hostStep_of_gapIdentify {s : State} (hPhase : s.host.phase = .gapIdentify) :
    hostStep s = { s with host := { s.host with phase := .awaitIdentity }, port := some .getid,
                          resultPort := none, trace := s.trace ++ [.wait s.cfg.val.quiescence] } := by
  simp only [hostStep, hPhase]
  rfl

theorem hostStep_of_awaitIdentity {s : State} {r : Result} (hPhase : s.host.phase = .awaitIdentity)
    (hResult : s.resultPort = some r) : hostStep s = identityResult (s.setResultPort none) r := by
  simp only [hostStep, hPhase, onResult, hResult]

theorem hostStep_of_gapRetry {s : State} (hPhase : s.host.phase = .gapRetry) :
    hostStep s = { s with host := { s.host with phase := .awaitProbe }, port := some .probe,
                          resultPort := none, trace := s.trace ++ [.wait s.cfg.val.quiescence] } := by
  simp only [hostStep, hPhase]
  rfl

theorem hostStep_of_gapPoll {s : State} (hPhase : s.host.phase = .gapPoll) : hostStep s = pollStart s := by
  simp only [hostStep, hPhase]

theorem hostStep_of_awaitPoll {s : State} {r : Result} (hPhase : s.host.phase = .awaitPoll)
    (hResult : s.resultPort = some r) : hostStep s = pollResult (s.setResultPort none) r := by
  simp only [hostStep, hPhase, onResult, hResult]

/-- While a poll's result is not there the host waits (44_host_lifecycle R200). -/
theorem hostStep_of_awaitPoll_none {s : State} (hPhase : s.host.phase = .awaitPoll)
    (hResult : s.resultPort = none) : hostStep s = s := by
  simp only [hostStep, hPhase, onResult, hResult]

theorem hostStep_of_stopped {s : State} (hPhase : s.host.phase = .stopped) : hostStep s = s := by
  simp only [hostStep, hPhase]

/-! ## The connect attempt -/

/-- A failed attempt offers nothing yet: the host stops, or goes to its retry gap. -/
theorem attemptFailed_frame (s : State) :
    (attemptFailed s).pc = s.pc ∧ (attemptFailed s).port = s.port ∧ (attemptFailed s).resetIn = s.resetIn
    ∧ ((attemptFailed s).host.phase = .gapRetry ∨ (attemptFailed s).host.phase = .stopped) := by
  rw [attemptFailed_eq]
  split
  · exact ⟨rfl, rfl, rfl, .inr rfl⟩
  · exact ⟨rfl, rfl, rfl, .inl rfl⟩

/-- Behind a failed attempt the next command, if any, is PROBE (44_host_lifecycle R205, R208). -/
theorem step_port_ne_getid_of_gapRetry_or_stopped {s t : State} (hRest : s.AtRest)
    (hPhase : s.host.phase = .gapRetry ∨ s.host.phase = .stopped) (hNext : step s = .next t) :
    t.port ≠ some .getid := by
  rw [step_of_atRest hRest] at hNext
  cases hNext
  rcases hPhase with hRetry | hStopped
  · rw [hostStep_of_gapRetry (by simpa using hRetry)]
    nofun
  · rw [hostStep_of_stopped (by simpa using hStopped), State.lineMoves_port, hRest.noCommand]
    nofun

/-- R204: the entry offers PROBE. -/
theorem step_of_start {s : State} (hRest : s.AtRest) (hPhase : s.host.phase = .start) :
    step s = .next { s.lineMoves with
      host := { s.host with connState := .connecting, attemptCount := 0, phase := .awaitProbe },
      port := some .probe, resultPort := none } := by
  rw [step_of_atRest hRest, hostStep_of_start (by simpa using hPhase)]
  rfl

/-- A successful PROBE: first the result is taken, then GETID is offered behind its gap. -/
theorem steps_of_probe_ok {s : State} {v : Response} (hRest : s.AtRest)
    (hPhase : s.host.phase = .awaitProbe) (hResult : s.resultPort = some (.ok v)) :
    ∃ t, step s = .next t ∧ step t = .next { s.lineMoves.lineMoves with
      host := { s.host with phase := .awaitIdentity }, port := some .getid, resultPort := none,
      trace := s.trace ++ [.wait s.cfg.val.quiescence] } := by
  have hTaken := hostStep_of_awaitProbe (s := s.lineMoves) hPhase hResult
  have hRest' : (probeResult (s.lineMoves.setResultPort none) (.ok v)).AtRest :=
    ⟨hRest.idle, hRest.noCommand, hRest.noReset⟩
  refine ⟨_, (step_of_atRest hRest).trans (congrArg _ hTaken), ?_⟩
  rw [step_of_atRest hRest', hostStep_of_gapIdentify rfl]
  rfl

/-- A failed PROBE: the attempt is over, and GETID does not follow. -/
theorem step_of_probe_fail {s : State} {e : Failure} (hRest : s.AtRest)
    (hPhase : s.host.phase = .awaitProbe) (hResult : s.resultPort = some (.fail e)) :
    ∃ t, step s = .next t ∧ t.port = none ∧ (t.host.phase = .gapRetry ∨ t.host.phase = .stopped)
      ∧ ∀ u, step t = .next u → u.port ≠ some .getid := by
  have hTaken := hostStep_of_awaitProbe (s := s.lineMoves) hPhase hResult
  obtain ⟨hPc, hPort, hReset, hPlace⟩ := attemptFailed_frame (s.lineMoves.setResultPort none)
  have hRest' : (attemptFailed (s.lineMoves.setResultPort none)).AtRest :=
    ⟨hPc.trans hRest.idle, hPort.trans hRest.noCommand, hReset.trans hRest.noReset⟩
  exact ⟨_, (step_of_atRest hRest).trans (congrArg _ hTaken), hRest'.noCommand, hPlace,
    fun _ => step_port_ne_getid_of_gapRetry_or_stopped hRest' hPlace⟩

/-- Settles O44: the entry, the successful PROBE and the failed one. -/
theorem attemptIsProbeThenGetid : Obligations.AttemptIsProbeThenGetid :=
  fun _ hRest => ⟨step_of_start hRest, steps_of_probe_ok hRest, fun _ => step_of_probe_fail hRest⟩

/-- Settles O46: the host's step on an identity is `connectDone`, whatever the identity. -/
theorem identityConnects : Obligations.IdentityConnects := by
  intro s id hRest hPhase hResult
  rw [step_of_atRest hRest, hostStep_of_awaitIdentity (s := s.lineMoves) hPhase hResult]
  rfl

/-- Settles O52: the host's step on a failure is `pollFailed`, whatever the failure. -/
theorem failedPollCounts : Obligations.FailedPollCounts := by
  intro s e hRest hPhase hResult
  have hFailed : pollResult (s.lineMoves.setResultPort none) (.fail e)
      = pollFailed (s.lineMoves.setResultPort none) := rfl
  rw [step_of_atRest hRest, hostStep_of_awaitPoll (s := s.lineMoves) hPhase hResult, hFailed,
    pollFailed_eq]
  rfl

end Sys2Proof.Machine
end

-- ==== The states only reset leaves ====
section
/-! PROOFS. In CantConnect the host does nothing (44_host_lifecycle R208), and in Connected it only polls
(R214): the connection state fixes the host's place, and its step there, or the block's frame, says what
can happen. -/

namespace Sys2Proof.Machine

/-- A step without reset is the block's, or the host's at rest. -/
theorem step_block_or_host {s t : State} (hNext : step s = .next t) (hNoReset : s.resetIn = false) :
    (s.setPort none).BlockFrame t ∨ (s.AtRest ∧ t = hostStep s.lineMoves) := by
  by_cases hBlock : s.pc ≠ .idle ∨ s.port ≠ none
  · exact .inl (step_frame_of_block hNext hNoReset hBlock)
  · obtain ⟨hIdle, hPort⟩ : s.pc = .idle ∧ s.port = none := by simpa using hBlock
    have hRest : s.AtRest := ⟨hIdle, hPort, hNoReset⟩
    rw [step_of_atRest hRest] at hNext
    exact .inr ⟨hRest, (Host.Outcome.next.inj hNext).symm⟩

theorem HostPhase.connState_eq_cantConnect {p : HostPhase} (h : p.connState = .cantConnect) :
    p = .stopped := by
  cases p <;> simp_all [HostPhase.connState]

theorem HostPhase.connState_eq_connected {p : HostPhase} (h : p.connState = .connected) :
    p = .gapPoll ∨ p = .awaitPoll := by
  cases p <;> simp_all [HostPhase.connState]

/-- Settles O48: the host stands at `stopped`, where its step is the identity, and the block's steps
leave it and the port alone. -/
theorem cantConnectIsTerminal : Obligations.CantConnectIsTerminal := by
  intro s t hInv hConn hNoReset hNext
  have hPhase : s.host.phase = .stopped :=
    HostPhase.connState_eq_cantConnect (hInv.host.place.symm.trans hConn)
  rcases step_block_or_host hNext hNoReset with ⟨hHost, hPort, acts, hTrace, hOwn⟩ | ⟨hRest, rfl⟩
  · have hQuiet : acts.all (fun a => !a.isCallback) = true := by
      simpa using fun a ha => Action.isCallback_of_ofBlock (hOwn a ha)
    exact ⟨hHost, hPort, acts, hTrace, hQuiet⟩
  · rw [hostStep_of_stopped (by simpa using hPhase)]
    exact ⟨rfl, hRest.noCommand, [], (List.append_nil _).symm, rfl⟩

/-- What R214 demands of a step in Connected, the conclusion of `ConnectedStaysConnected`. -/
structure State.StaysConnected (s t : State) : Prop where
  connState : t.host.connState = .connected
  phase : t.host.phase ≠ .stopped
  port : ∀ i, t.port = some i → ∃ p, i = .setpwr p
  waits : ∃ acts, t.trace = s.trace ++ acts ∧ ∀ d, Action.wait d ∈ acts → d = s.cfg.val.pollPeriod

@[simp] theorem HostState.samplePower_connState (h : HostState) : h.samplePower.connState = h.connState := by
  unfold HostState.samplePower
  split <;> rfl

theorem pollStart_staysConnected {s : State} (hConn : s.host.connState = .connected) :
    s.StaysConnected (pollStart s) := by
  rw [pollStart_eq]
  exact ⟨by simpa using hConn, nofun, fun i hi => ⟨_, (Option.some.inj hi).symm⟩,
    [.wait s.conf.pollPeriod], rfl, by simp⟩

theorem pollSucceeded_eq (s : State) (st : Status) :
    pollSucceeded s st =
      { s with host := { s.host with failureStreak := 0, phase := .gapPoll },
               trace := s.trace ++ [.onTelemetry st, .onLinkUp] } := by
  simp [pollSucceeded, State.setHost, State.log]

theorem pollSucceeded_staysConnected {s : State} (st : Status) (hConn : s.host.connState = .connected)
    (hPort : s.port = none) : s.StaysConnected (pollSucceeded s st) := by
  rw [pollSucceeded_eq]
  exact ⟨hConn, nofun, by simp [hPort], _, rfl, by simp⟩

theorem pollFailed_staysConnected {s : State} (hConn : s.host.connState = .connected)
    (hPort : s.port = none) : s.StaysConnected (pollFailed s) := by
  rw [pollFailed_eq]
  exact ⟨hConn, nofun, by simp [hPort], _, rfl, by split <;> simp⟩

theorem pollResult_staysConnected {s : State} (r : Result) (hConn : s.host.connState = .connected)
    (hPort : s.port = none) : s.StaysConnected (pollResult s r) := by
  match r with
  | .ok (.operationalStatus st) => exact pollSucceeded_staysConnected st hConn hPort
  | .ok .probeAck | .ok (.identity _) | .fail _ => exact pollFailed_staysConnected hConn hPort

/-- The host at either of its two places in Connected. -/
theorem hostStep_staysConnected {s : State} (hConn : s.host.connState = .connected)
    (hPhase : s.host.phase = .gapPoll ∨ s.host.phase = .awaitPoll) (hPort : s.port = none) :
    s.StaysConnected (hostStep s) := by
  rcases hPhase with hGap | hAwait
  · rw [hostStep_of_gapPoll hGap]
    exact pollStart_staysConnected hConn
  · cases hResult : s.resultPort with
    | none =>
      rw [hostStep_of_awaitPoll_none hAwait hResult]
      exact ⟨hConn, by simp [hAwait], by simp [hPort], [], (List.append_nil _).symm, nofun⟩
    | some r =>
      rw [hostStep_of_awaitPoll hAwait hResult]
      obtain ⟨hConn', hPhase', hPort', hWaits⟩ :=
        pollResult_staysConnected (s := s.setResultPort none) r hConn hPort
      exact ⟨hConn', hPhase', hPort', hWaits⟩

/-- Settles O49: the block's steps keep the host, leave the port empty and wait for nothing; the host's
own step at a poll stays connected. -/
theorem connectedStaysConnected : Obligations.ConnectedStaysConnected := by
  intro s t hInv hConn hNoReset hNext
  have hPhase := HostPhase.connState_eq_connected (hInv.host.place.symm.trans hConn)
  rcases step_block_or_host hNext hNoReset with ⟨hHost, hPort, acts, hTrace, hOwn⟩ | ⟨hRest, rfl⟩
  · have hRunning : t.host.phase ≠ .stopped := by
      rcases hPhase with h | h <;> simp [hHost, h]
    have hEmpty : t.port = none := hPort
    exact ⟨(congrArg HostState.connState hHost).trans hConn, hRunning, by simp [hEmpty], acts, hTrace,
      fun d hWait => by simpa [Action.ofBlock] using hOwn _ hWait⟩
  · obtain ⟨hConn', hPhase', hPort', hWaits⟩ :=
      hostStep_staysConnected (s := s.lineMoves) hConn hPhase hRest.noCommand
    exact ⟨hConn', hPhase', hPort', hWaits⟩

end Sys2Proof.Machine
end

-- ==== The checksum as a sum of bytes ====
section
/-! PROOFS. CHECKSUM is the sum of the bytes in the ring of 8-bit words (40_frame_codec R120, R121): the
order does not count, and one changed byte changes it. -/

namespace Sys2Proof.Machine

theorem checksum_eq_sum (s : List Byte) : checksum s = s.sum := by
  induction s with
  | nil => rfl
  | cons b s ih =>
    rw [List.sum_cons, ← ih]
    apply BitVec.eq_of_toNat_eq
    simp [checksum_toNat]

@[simp] theorem checksum_nil : checksum [] = 0 := rfl

@[simp] theorem checksum_cons (b : Byte) (s : List Byte) : checksum (b :: s) = b + checksum s := by
  simp [checksum_eq_sum]

@[simp] theorem checksum_append (s t : List Byte) : checksum (s ++ t) = checksum s + checksum t := by
  simp [checksum_eq_sum]

theorem checksumSerial_eq_checksum (s : List Byte) : checksumSerial s = checksum s := by
  rw [checksum_eq_sum, List.sum_eq_foldl, checksumSerial]

/-- Settles O1: both are the sum of the bytes, which no permutation changes. -/
theorem checksumSerialInAnyOrder : Obligations.ChecksumSerialInAnyOrder := by
  intro s t hPerm
  rw [checksumSerial_eq_checksum, checksum_eq_sum, checksum_eq_sum, hPerm.sum_eq]

/-- One byte changed, and the checksum is another: a sum is injective in each of its terms. -/
theorem checksum_modify_ne {s : List Byte} {i : Nat} {f : Byte → Byte} (hi : i < s.length)
    (hf : ∀ b, f b ≠ b) : checksum (s.modify i f) ≠ checksum s := by
  have hModified : s.modify i f = s.take i ++ f s[i] :: s.drop (i + 1) := by
    rw [List.modify_eq_take_cons_drop hi]
  have hSplit : s = s.take i ++ s[i] :: s.drop (i + 1) := by simp
  intro hEq
  rw [hModified, congrArg checksum hSplit] at hEq
  simp only [checksum_append, checksum_cons, add_right_inj, add_left_inj] at hEq
  exact hf _ hEq

end Sys2Proof.Machine
end

-- ==== Encoded frames and the inputs DECODE accepts ====
section
/-! PROOFS. The layout of an encoded frame (40_frame_codec R123, R124), DECODE's four tests byte by byte
(R125 to R129), and what the two give together: the round trip (R133) and the rejection of every
single-bit error (R134). -/

namespace Sys2Proof.Machine

/-! ## Reading slices byte by byte -/

theorem slice_zero (s : List Byte) (n : Nat) : slice s 0 n = s.take n := by
  simp [slice]

/-- Two bytes read are the two bytes that stand there. -/
theorem memRead_two_eq_iff (s : List Byte) (k : Nat) (a b : Byte) :
    memRead s k 2 = [a, b] ↔ memByte s k = some a ∧ memByte s (k + 1) = some b := by
  have hFirst : s[k]? = (s.drop k)[0]? := by simp
  have hSecond : s[k + 1]? = (s.drop k)[1]? := by simp
  rw [memRead_eq, memByte, memByte, hFirst, hSecond]
  match s.drop k with
  | [] => simp
  | [_] => simp
  | x :: y :: rest => simp

/-- A footer at an index is its two bytes. -/
theorem footerAt_iff (s : List Byte) (k : Nat) :
    footerAt s k ↔ memByte s k = some 0x10 ∧ memByte s (k + 1) = some 0x03 :=
  memRead_two_eq_iff s k _ _

/-! ## The layout of an encoded frame -/

/-- A frame is the bytes the checksum is over, the checksum, and the footer. -/
theorem encodeFrame_eq_append (d : Byte) (p : List Byte) :
    encodeFrame d p = (0x10 :: 0x02 :: d :: p) ++ [checksum (0x10 :: 0x02 :: d :: p), 0x10, 0x03] :=
  encodeFrame_eq d p

theorem slice_zero_encodeFrame (d : Byte) (p : List Byte) :
    slice (encodeFrame d p) 0 (p.length + 3) = 0x10 :: 0x02 :: d :: p := by
  rw [slice_zero, encodeFrame_eq_append]
  exact List.take_left' rfl

theorem slice_three_encodeFrame (d : Byte) (p : List Byte) :
    slice (encodeFrame d p) 3 (p.length + 3) = p := by
  rw [slice, ← slice_zero, slice_zero_encodeFrame]
  rfl

theorem memByte_dest_encodeFrame (d : Byte) (p : List Byte) : memByte (encodeFrame d p) 2 = some d := by
  simp [memByte, encodeFrame_eq]

theorem memByte_header_encodeFrame (d : Byte) (p : List Byte) :
    memByte (encodeFrame d p) 0 = some 0x10 ∧ memByte (encodeFrame d p) 1 = some 0x02 := by
  simp [memByte, encodeFrame_eq]

/-- The bytes behind the payload: the checksum, and the footer's two. -/
theorem memByte_trailer_encodeFrame (d : Byte) (p : List Byte) :
    memByte (encodeFrame d p) (p.length + 3) = some (checksum (0x10 :: 0x02 :: d :: p))
    ∧ memByte (encodeFrame d p) (p.length + 4) = some 0x10
    ∧ memByte (encodeFrame d p) (p.length + 5) = some 0x03 := by
  rw [encodeFrame_eq_append]
  simp [memByte, -List.cons_append]

/-- Settles O2: each property is one of the layout lemmas above. -/
theorem encodedFrameLayout : Obligations.EncodedFrameLayout := by
  intro d p
  obtain ⟨hHeader0, hHeader1⟩ := memByte_header_encodeFrame d p
  obtain ⟨hChecksum, hFooter0, hFooter1⟩ := memByte_trailer_encodeFrame d p
  have hLast : last2 (encodeFrame d p) = memRead (encodeFrame d p) (p.length + 4) 2 := by
    simp [last2, memRead]
  simp only [encodeFrame_length, Nat.reduceSubDiff]
  refine ⟨trivial, ?_, memByte_dest_encodeFrame d p, slice_three_encodeFrame d p, ?_, ?_⟩
  · exact (memRead_two_eq_iff _ 0 _ _).mpr ⟨hHeader0, hHeader1⟩
  · rw [slice_zero_encodeFrame, hChecksum]
  · rw [hLast]
    exact (memRead_two_eq_iff _ _ _ _).mpr ⟨hFooter0, hFooter1⟩

/-! ## What DECODE accepts -/

/-- The inputs that pass DECODE's four tests, with the frame they give (40_frame_codec R125). -/
structure AcceptedAs (raw : List Byte) (f : Frame) : Prop where
  floor : 5 ≤ raw.length
  header0 : memByte raw 0 = some 0x10
  header1 : memByte raw 1 = some 0x02
  footer0 : memByte raw (raw.length - 2) = some 0x10
  footer1 : memByte raw (raw.length - 1) = some 0x03
  check : memByte raw (raw.length - 3) = some (checksum (slice raw 0 (raw.length - 3)))
  dest : memByte raw 2 = some f.dest
  payload : f.payload = slice raw 3 (raw.length - 3)

/-- From the length floor on, byte 2 exists. -/
theorem memByte_two_of_floor {raw : List Byte} (hFloor : 5 ≤ raw.length) :
    memByte raw 2 = some ((memByte raw 2).getD 0) := by
  have hTwo : 2 < raw.length := by omega
  simp [memByte, hTwo]

theorem footer_memRead_iff {raw : List Byte} (hFloor : 5 ≤ raw.length) :
    memRead raw (raw.length - 2) 2 = footerBytes ↔
      memByte raw (raw.length - 2) = some 0x10 ∧ memByte raw (raw.length - 1) = some 0x03 := by
  have hLast : raw.length - 2 + 1 = raw.length - 1 := by omega
  rw [footerBytes, memRead_two_eq_iff, hLast]

theorem acceptedAs_of_decodeFrame_eq_ok {raw : List Byte} {f : Frame} (hOk : decodeFrame raw = .ok f) :
    AcceptedAs raw f := by
  rcases decodeFrame_cases raw with
    ⟨-, h⟩ | ⟨-, -, h⟩ | ⟨-, -, -, h⟩ | ⟨-, -, -, -, h⟩ | ⟨hFloor, hHeader, hFooter, hCheck, h⟩ <;>
    rw [h] at hOk <;> cases hOk
  obtain ⟨hHeader0, hHeader1⟩ := (memRead_two_eq_iff _ _ _ _).mp hHeader
  obtain ⟨hFooter0, hFooter1⟩ := (footer_memRead_iff hFloor).mp hFooter
  exact ⟨hFloor, hHeader0, hHeader1, hFooter0, hFooter1, hCheck, memByte_two_of_floor hFloor, rfl⟩

theorem decodeFrame_eq_ok_of_acceptedAs {raw : List Byte} {f : Frame} (h : AcceptedAs raw f) :
    decodeFrame raw = .ok f := by
  have hHeader : memRead raw 0 2 = headerBytes := (memRead_two_eq_iff _ _ _ _).mpr ⟨h.header0, h.header1⟩
  have hFooter : memRead raw (raw.length - 2) 2 = footerBytes :=
    (footer_memRead_iff h.floor).mpr ⟨h.footer0, h.footer1⟩
  have hFrame : f = { dest := (memByte raw 2).getD 0, payload := framePayload raw } := by
    cases f
    simp only [Frame.mk.injEq]
    exact ⟨by simp [h.dest], h.payload⟩
  rcases decodeFrame_cases raw with
    ⟨hShort, -⟩ | ⟨-, hBad, -⟩ | ⟨-, -, hBad, -⟩ | ⟨-, -, -, hBad, -⟩ | ⟨-, -, -, -, hOk⟩
  · exact absurd h.floor (by omega)
  · exact absurd hHeader hBad
  · exact absurd hFooter hBad
  · exact absurd h.check hBad
  · rw [hOk, ← hFrame]

theorem decodeFrame_eq_ok_iff (raw : List Byte) (f : Frame) : decodeFrame raw = .ok f ↔ AcceptedAs raw f :=
  ⟨acceptedAs_of_decodeFrame_eq_ok, decodeFrame_eq_ok_of_acceptedAs⟩

/-- Settles O6: the four tests are `AcceptedAs`, and each of them fails with MalformedFrame. -/
theorem decodeAcceptsExactly : Obligations.DecodeAcceptsExactly := by
  refine ⟨fun raw f => ?_, fun _ _ => malformedFrame_of_decodeFrame_fail⟩
  rw [decodeFrame_eq_ok_iff]
  constructor
  · rintro ⟨hFloor, hH0, hH1, hF0, hF1, hCheck, hDest, hPayload⟩
    exact ⟨hFloor, hH0, hH1, hF0, hF1, hCheck, hDest, hPayload⟩
  · rintro ⟨hFloor, hH0, hH1, hF0, hF1, hCheck, hDest, hPayload⟩
    exact ⟨hFloor, hH0, hH1, hF0, hF1, hCheck, hDest, hPayload⟩

/-! ## The round trip -/

theorem acceptedAs_encodeFrame (d : Byte) (p : List Byte) :
    AcceptedAs (encodeFrame d p) { dest := d, payload := p } := by
  obtain ⟨hHeader0, hHeader1⟩ := memByte_header_encodeFrame d p
  obtain ⟨hChecksum, hFooter0, hFooter1⟩ := memByte_trailer_encodeFrame d p
  exact {
    floor := by simp
    header0 := hHeader0
    header1 := hHeader1
    footer0 := by simpa using hFooter0
    footer1 := by simpa using hFooter1
    check := by simpa [slice_zero_encodeFrame] using hChecksum
    dest := memByte_dest_encodeFrame d p
    payload := by simp [slice_three_encodeFrame] }

@[simp] theorem decodeFrame_encodeFrame (d : Byte) (p : List Byte) :
    decodeFrame (encodeFrame d p) = .ok { dest := d, payload := p } :=
  decodeFrame_eq_ok_of_acceptedAs (acceptedAs_encodeFrame d p)

/-- Settles O3: an encoded frame passes the four tests, and its slices are DEST and the payload. -/
theorem frameCodecRoundTrip : Obligations.FrameCodecRoundTrip := decodeFrame_encodeFrame

/-- Settles O7: of five bytes, DECODE's tests fix every one, DEST being the checksum as well. -/
theorem fiveByteInputUnique : Obligations.FiveByteInputUnique := by
  intro raw f hLength
  obtain ⟨dest, payload⟩ := f
  constructor
  · intro hOk
    obtain ⟨-, hH0, hH1, hF0, hF1, hCheck, hDest, hPayload⟩ := acceptedAs_of_decodeFrame_eq_ok hOk
    match raw, hLength with
    | [a, b, c, x, y], _ =>
      simp [memByte, slice] at hH0 hH1 hF0 hF1 hCheck hDest hPayload
      subst hH0 hH1 hF0 hF1 hCheck hDest hPayload
      exact ⟨rfl, rfl⟩
  · rintro ⟨rfl, hFrame⟩
    rw [hFrame]
    decide

/-! ## Single-bit errors -/

/-- A byte with one of its bits flipped is another byte. -/
theorem xor_twoPow_ne {k : Nat} (hk : k < 8) (b : Byte) : b ^^^ BitVec.twoPow 8 k ≠ b := by
  intro hEq
  have hBit : (b ^^^ BitVec.twoPow 8 k).getLsbD k = b.getLsbD k := by rw [hEq]
  simp [hk] at hBit

@[simp] theorem flipBit_length (s : List Byte) (i k : Nat) : (flipBit s i k).length = s.length := by
  simp [flipBit]

/-- A flip changes the byte it hits. -/
theorem memByte_flipBit_self_ne {s : List Byte} {i k : Nat} (hi : i < s.length) (hk : k < 8) :
    memByte (flipBit s i k) i ≠ memByte s i := by
  simp [memByte, flipBit, hi, xor_twoPow_ne hk]

/-- A flip leaves every other byte alone. -/
theorem memByte_flipBit_of_ne {s : List Byte} {i j k : Nat} (hij : i ≠ j) :
    memByte (flipBit s i k) j = memByte s j := by
  simp [memByte, flipBit, hij]

/-- The bytes before the one a flip hits stay. -/
theorem slice_zero_flipBit_of_le {s : List Byte} {i n k : Nat} (hn : n ≤ i) :
    slice (flipBit s i k) 0 n = slice s 0 n := by
  rw [slice_zero, slice_zero, flipBit, List.take_modify, List.modify_eq_self]
  simp [hn]

/-- A flip inside the bytes the checksum is over changes the checksum. -/
theorem checksum_slice_flipBit_ne {s : List Byte} {i n k : Nat} (hi : i < n) (hn : n ≤ s.length)
    (hk : k < 8) : checksum (slice (flipBit s i k) 0 n) ≠ checksum (slice s 0 n) := by
  rw [slice_zero, slice_zero, flipBit, List.take_modify]
  exact checksum_modify_ne (by simp; omega) (xor_twoPow_ne hk)

/-- No input that DECODE accepts is one bit away from another: the tests fix the bytes outside DEST and
payload, and the checksum of those two is fixed by its own byte. -/
theorem not_acceptedAs_flipBit {raw : List Byte} {f g : Frame} {i k : Nat} (h : AcceptedAs raw f)
    (hi : i < raw.length) (hk : k < 8) : ¬ AcceptedAs (flipBit raw i k) g := by
  intro h'
  obtain ⟨hFloor, hH0, hH1, hF0, hF1, hCheck, -, -⟩ := h
  obtain ⟨-, hH0', hH1', hF0', hF1', hCheck', -, -⟩ := h'
  rw [flipBit_length] at hF0' hF1' hCheck'
  have hFixed : ∀ {j : Nat} {v : Byte}, memByte raw j = some v → memByte (flipBit raw i k) j = some v →
      i ≠ j := by
    rintro j v hOld hNew rfl
    exact memByte_flipBit_self_ne hi hk (hNew.trans hOld.symm)
  have hNotF0 := hFixed hF0 hF0'
  have hNotF1 := hFixed hF1 hF1'
  by_cases hBefore : i < raw.length - 3
  · rw [memByte_flipBit_of_ne (by omega), hCheck] at hCheck'
    exact checksum_slice_flipBit_ne hBefore (by omega) hk (Option.some.inj hCheck').symm
  · rw [slice_zero_flipBit_of_le (by omega)] at hCheck'
    have hNotCheck := hFixed hCheck hCheck'
    omega

/-- Settles O4: an encoded frame is accepted, so a frame one bit away from it is not. -/
theorem singleBitFlipRejected : Obligations.SingleBitFlipRejected := by
  intro d p i k hi hk
  cases hDecoded : decodeFrame (flipBit (encodeFrame d p) i k) with
  | ok g =>
    exact absurd (acceptedAs_of_decodeFrame_eq_ok hDecoded)
      (not_acceptedAs_flipBit (acceptedAs_encodeFrame d p) hi hk)
  | fail e =>
    obtain ⟨cause, rfl⟩ := malformedFrame_of_decodeFrame_fail hDecoded
    exact ⟨cause, rfl⟩

end Sys2Proof.Machine
end

-- ==== Command payloads and command frames ====
section
/-! PROOFS. The payload of a well-formed command decodes back to it (30_encoding R92, R97), the bytes of
each command's frame (20_memory R66), and the one of them with a footer before its own (70_reset R287). -/

namespace Sys2Proof

/-- In SETPWR's range the operand byte is the power itself (30_encoding R94). -/
theorem toNat_ofInt_power {p : Int} (hLow : 0 ≤ p) (hHigh : p ≤ Instr.powerMax) :
    ((BitVec.ofInt 8 p).toNat : Int) = p := by
  simp only [Instr.powerMax] at hHigh
  simp
  omega

/-- Settles O8: each payload is one of the accepted inputs of `decode_eq_ok_iff`. -/
theorem commandPayloadRoundTrip : Obligations.CommandPayloadRoundTrip := by
  intro i hWellFormed
  rw [decode_eq_ok_iff]
  cases i with
  | probe => exact .inl ⟨rfl, rfl⟩
  | getid => exact .inr (.inl ⟨rfl, rfl⟩)
  | setpwr p =>
    obtain ⟨hLow, hHigh⟩ : 0 ≤ p ∧ p ≤ Instr.powerMax := by simpa [Instr.wellFormed] using hWellFormed
    have hOperand := toNat_ofInt_power hLow hHigh
    refine .inr (.inr ⟨BitVec.ofInt 8 p, ?_, rfl, by rw [hOperand]⟩)
    simp only [Instr.powerMax] at hHigh
    simp only [operandMax]
    omega

/-- Settles O10: the seven words, each read by evaluation. -/
theorem tableWordsDecode : Obligations.TableWordsDecode := by
  unfold Obligations.TableWordsDecode
  decide

namespace Machine

/-! ## The frames, byte by byte -/

theorem commandFrame_probe_bytes (cfg : Config) :
    commandFrame cfg .probe = [0x10, 0x02, cfg.dest, 0x00, 0x12 + cfg.dest, 0x10, 0x03] := by
  have hChecksum : checksum (0x10 :: 0x02 :: cfg.dest :: [0x00]) = 0x12 + cfg.dest := by
    simp only [checksum_cons, checksum_nil]
    bv_omega
  rw [commandFrame_probe, encodeFrame_eq, hChecksum]
  rfl

theorem commandFrame_getid_bytes (cfg : Config) :
    commandFrame cfg .getid = [0x10, 0x02, cfg.dest, 0x14, 0x01, 0x27 + cfg.dest, 0x10, 0x03] := by
  have hChecksum : checksum (0x10 :: 0x02 :: cfg.dest :: [0x14, 0x01]) = 0x27 + cfg.dest := by
    simp only [checksum_cons, checksum_nil]
    bv_omega
  rw [commandFrame_getid, encodeFrame_eq, hChecksum]
  rfl

theorem commandFrame_setpwr_bytes (cfg : Config) (q : Fin 102) :
    commandFrame cfg (.setpwr q)
      = [0x10, 0x02, cfg.dest, 0x11, BitVec.ofNat 8 q.val, 0x23 + cfg.dest + BitVec.ofNat 8 q.val,
         0x10, 0x03] := by
  have hChecksum : checksum (0x10 :: 0x02 :: cfg.dest :: [0x11, BitVec.ofNat 8 q.val])
      = 0x23 + cfg.dest + BitVec.ofNat 8 q.val := by
    simp only [checksum_cons, checksum_nil]
    bv_omega
  rw [commandFrame_setpwr, encodeFrame_eq, hChecksum]
  rfl

/-- Settles O11: the three frames written out. -/
theorem commandFramesByByte : Obligations.CommandFramesByByte :=
  fun cfg q => ⟨commandFrame_probe_bytes cfg, commandFrame_getid_bytes cfg, commandFrame_setpwr_bytes cfg q⟩

/-! ## The footer inside a command frame -/

/-- DEST and SETPWR's operand make the checksum 0x03, behind an operand 0x10, in one way only. -/
theorem operand_checksum_footer_iff (d : Byte) (q : Fin 102) :
    (BitVec.ofNat 8 q.val = 0x10#8 ∧ 0x23#8 + d + BitVec.ofNat 8 q.val = 0x03#8) ↔ d = 0xD0#8 ∧ q = 16 := by
  constructor
  · rintro ⟨hOperand, hChecksum⟩
    have hPower : q.val = 16 := by
      have := congrArg BitVec.toNat hOperand
      simp at this
      omega
    exact ⟨by bv_omega, Fin.ext hPower⟩
  · rintro ⟨rfl, rfl⟩
    decide

/-- Settles O12: index by index, the one pair of bytes that can be the footer is SETPWR's operand with
the checksum behind it. -/
theorem oneCommandFrameHoldsEarlyFooter : Obligations.OneCommandFrameHoldsEarlyFooter := by
  intro cfg c
  cases c with
  | probe =>
    rw [commandFrame_probe_bytes]
    simp only [footerAt_iff]
    constructor
    · rintro ⟨k, hk, hFooter⟩
      have : k < 5 := Nat.lt_of_add_lt_add_right (n := 2) hk
      interval_cases k <;> simp [memByte] at hFooter
    · nofun
  | getid =>
    rw [commandFrame_getid_bytes]
    simp only [footerAt_iff]
    constructor
    · rintro ⟨k, hk, hFooter⟩
      have : k < 6 := Nat.lt_of_add_lt_add_right (n := 2) hk
      interval_cases k <;> simp [memByte] at hFooter
    · nofun
  | setpwr q =>
    rw [commandFrame_setpwr_bytes]
    simp only [footerAt_iff, Command.setpwr.injEq]
    constructor
    · rintro ⟨k, hk, hFooter⟩
      have : k < 6 := Nat.lt_of_add_lt_add_right (n := 2) hk
      interval_cases k <;> simp [memByte] at hFooter
      exact (operand_checksum_footer_iff cfg.dest q).mp hFooter
    · intro hWords
      exact ⟨4, by simp, by simpa [memByte] using (operand_checksum_footer_iff cfg.dest q).mpr hWords⟩

end Machine
end Sys2Proof
end

-- ==== The response decoders, and what a frame is judged to be ====
section
/-! PROOFS. The decoders of the registry (41_commands R144, R150, R151), the judgement of an encoded frame
by the command that is waiting (70_reset R286), and the classes and codes of failures (44_host_lifecycle
R206, 60_exceptions R235). -/

namespace Sys2Proof.Machine

theorem mem_printable_of_mem_identityText {cfg : Config} {payload : List Byte} {b : Byte}
    (hMem : b ∈ identityText cfg payload) : b ∈ cfg.printable :=
  of_decide_eq_true (List.mem_filter.mp hMem).2

/-- Settles O13: the identity text is a filter of the payload behind its first byte. -/
theorem identityKeepsPrintableBytes : Obligations.IdentityKeepsPrintableBytes :=
  fun cfg payload => ⟨identityText cfg payload, rfl, List.filter_sublist,
    fun _ => mem_printable_of_mem_identityText, fun _ hb => List.count_filter (decide_eq_true hb)⟩

/-- Settles O15: the four outcomes of the registry's decoder, each with its command. -/
theorem responsesPairedWithCommands : Obligations.ResponsesPairedWithCommands := by
  intro cfg c payload
  rcases decodeResp_cases cfg c payload with
    ⟨hProbe, h⟩ | ⟨hGetid, h⟩ | ⟨q, hSetpwr, -, h⟩ | ⟨q, hSetpwr, -, h⟩
  · exact .inl ⟨_, h, .inl ⟨hProbe, rfl⟩⟩
  · exact .inl ⟨_, h, .inr (.inl ⟨hGetid, _, rfl⟩)⟩
  · exact .inr ⟨⟨q, hSetpwr⟩, h⟩
  · exact .inl ⟨_, h, .inr (.inr ⟨⟨q, hSetpwr⟩, _, rfl⟩)⟩

/-- An encoded frame is judged by its payload and the waiting command; its DEST plays no part (D29). -/
theorem judge_encodeFrame (cfg : Config) (c : Command) (d : Byte) (p : List Byte) :
    judge cfg c (.ok (encodeFrame d p)) = decodeResp cfg c p := by
  simp [judge]

/-- Settles O16: the judgement of an encoded frame is the command's own decoder on the payload. -/
theorem outOfTurnFrameTakenAsExpected : Obligations.OutOfTurnFrameTakenAsExpected := by
  intro cfg d p q
  simp only [judge_encodeFrame]
  exact ⟨rfl, rfl, fun hFloor => ⟨_, decodeStatus_of_floor_le hFloor⟩⟩

/-! ## Classes and codes of failures -/

theorem connectClass_of_kind_ne {f : Failure} (hTimeout : f.kind ≠ .timeout)
    (hMalformed : f.kind ≠ .malformedFrame) : connectClass f = f := by
  cases f with
  | timeout n => exact absurd rfl hTimeout
  | malformedFrame cause => exact absurd rfl hMalformed
  | contractViolation | noResponse | cantConnect | configInvalid => rfl

/-- A transaction can fail with a Timeout or a MalformedFrame only (43_transaction_driver R193). -/
theorem connectClass_of_resultAllowed {cfg : Config} {c : Command} {f : Failure}
    (hAllowed : resultAllowed cfg c (.fail f) = true) : connectClass f = .noResponse := by
  cases f with
  | timeout n => rfl
  | malformedFrame cause => rfl
  | contractViolation | noResponse | cantConnect | configInvalid => nomatch hAllowed

/-- The codes follow the order of the constructors, so the kind is read back off its code. -/
theorem FailureKind.code_injective : Function.Injective FailureKind.code :=
  Function.LeftInverse.injective (g := fun n => FailureKind.ofNat (n - 1)) fun k => by cases k <;> rfl

theorem FailureKind.code_ne_zero (k : FailureKind) : k.code ≠ 0 := by
  cases k <;> decide

theorem Cause.code_injective : Function.Injective Cause.code :=
  Function.LeftInverse.injective (g := fun n => Cause.ofNat (n - 1)) fun c => by cases c <;> rfl

/-- The code of a result is 0 for a success and no other. -/
theorem Ret.code_eq_zero_iff {α : Type} (r : Ret α) : r.code = 0 ↔ ∃ v, r = .ok v := by
  cases r with
  | ok v => exact ⟨fun _ => ⟨v, rfl⟩, fun _ => rfl⟩
  | fail f => exact ⟨fun h => absurd h f.kind.code_ne_zero, nofun⟩

/-- Settles O55: the classes kind by kind, the tables by evaluation, and the codes' injectivity. -/
theorem failureClassesAndCodes : Obligations.FailureClassesAndCodes :=
  ⟨⟨fun _ => rfl, fun _ => rfl, fun _ => connectClass_of_kind_ne, fun _ _ _ => connectClass_of_resultAllowed⟩,
    ⟨rfl, rfl, rfl, rfl, rfl, rfl⟩, ⟨rfl, rfl, rfl, rfl, rfl, rfl, rfl, rfl, rfl⟩,
    fun _ _ h => FailureKind.code_injective h, fun _ _ h => Cause.code_injective h,
    fun r => ⟨fun _ h => h ▸ rfl, fun _ h => h ▸ rfl, r.code_eq_zero_iff⟩⟩

end Sys2Proof.Machine
end

-- ==== What the receiver's registers say of the answers taken ====
section
/-! PROOFS. The two inversions of a turn of RECEIVE, the bounds it keeps (42_stream_receiver R164 to R167,
10_state R25 to R28), and RECEIVE as a whole: while it goes on its registers account for every answer
taken, and it ends with the first turn that ends (R178). -/

namespace Sys2Proof.Machine

/-! ## One turn -/

/-- The four ways a turn goes on. -/
theorem rxStep_eq_more {cfg : Config} {r r' : RxState} {a : Answer} (h : rxStep cfg r a = .more r') :
    (a = .silence ∧ r.timeoutCnt + 1 ≠ cfg.timeoutLimit ∧ r' = { r with timeoutCnt := r.timeoutCnt + 1 })
    ∨ (∃ b, a = .byte b ∧ r.unsynced = true ∧ b ≠ marker ∧ r.discardCnt + 1 ≤ cfg.noiseBound
      ∧ r' = { r with discardCnt := r.discardCnt + 1 })
    ∨ (a = .byte marker ∧ r.unsynced = true ∧ r' = { r with unsynced := false, buf := [marker] })
    ∨ (∃ b, a = .byte b ∧ r.unsynced = false ∧ r.buf.length + 1 ≤ cfg.maxFrameLen
      ∧ last2 (r.buf ++ [b]) ≠ footerBytes ∧ r' = { r with buf := r.buf ++ [b] }) := by
  rcases rxStep_cases cfg r a with
    ⟨-, -, e⟩ | ⟨ha, hCount, e⟩ | ⟨b, -, -, -, -, e⟩ | ⟨b, ha, hU, hb, hCount, e⟩ | ⟨ha, hU, e⟩
      | ⟨b, -, -, -, e⟩ | ⟨b, -, -, -, -, e⟩ | ⟨b, ha, hU, hLen, hLast, e⟩ <;>
    rw [e] at h <;> cases h
  · exact .inl ⟨ha, hCount, rfl⟩
  · exact .inr (.inl ⟨b, ha, hU, hb, hCount, rfl⟩)
  · exact .inr (.inr (.inl ⟨ha, hU, rfl⟩))
  · exact .inr (.inr (.inr ⟨b, ha, hU, hLen, hLast, rfl⟩))

/-- The four ways a turn ends RECEIVE, each with its outcome. -/
theorem rxStep_eq_done {cfg : Config} {r r' : RxState} {a : Answer} {o : Ret (List Byte)}
    (h : rxStep cfg r a = .done r' o) :
    (a = .silence ∧ r.timeoutCnt + 1 = cfg.timeoutLimit
      ∧ r' = { r with timeoutCnt := r.timeoutCnt + 1 } ∧ o = .fail (.timeout cfg.timeoutLimit))
    ∨ (∃ b, a = .byte b ∧ r.unsynced = true ∧ b ≠ marker ∧ cfg.noiseBound < r.discardCnt + 1
      ∧ r' = { r with discardCnt := r.discardCnt + 1 } ∧ o = .fail (.malformedFrame .noiseOverrun))
    ∨ (∃ b, a = .byte b ∧ r.unsynced = false ∧ cfg.maxFrameLen < r.buf.length + 1
      ∧ r' = { r with buf := r.buf ++ [b] } ∧ o = .fail (.malformedFrame .frameOverrun))
    ∨ (∃ b, a = .byte b ∧ r.unsynced = false ∧ r.buf.length + 1 ≤ cfg.maxFrameLen
      ∧ last2 (r.buf ++ [b]) = footerBytes ∧ r' = { r with buf := r.buf ++ [b] }
      ∧ o = .ok (r.buf ++ [b])) := by
  rcases rxStep_cases cfg r a with
    ⟨ha, hCount, e⟩ | ⟨-, -, e⟩ | ⟨b, ha, hU, hb, hCount, e⟩ | ⟨b, -, -, -, -, e⟩ | ⟨-, -, e⟩
      | ⟨b, ha, hU, hLen, e⟩ | ⟨b, ha, hU, hLen, hLast, e⟩ | ⟨b, -, -, -, -, e⟩ <;>
    rw [e] at h <;> cases h
  · exact .inl ⟨ha, hCount, rfl, by rw [hCount]⟩
  · exact .inr (.inl ⟨b, ha, hU, hb, hCount, rfl, rfl⟩)
  · exact .inr (.inr (.inl ⟨b, ha, hU, hLen, rfl, rfl⟩))
  · exact .inr (.inr (.inr ⟨b, ha, hU, hLen, hLast, rfl, rfl⟩))

/-- The one way a turn returns a frame: the byte that completes the footer, within the length. -/
theorem rxStep_eq_done_ok {cfg : Config} {r r' : RxState} {a : Answer} {raw : List Byte}
    (h : rxStep cfg r a = .done r' (.ok raw)) :
    ∃ b, a = .byte b ∧ r.unsynced = false ∧ r.buf.length + 1 ≤ cfg.maxFrameLen
      ∧ last2 (r.buf ++ [b]) = footerBytes ∧ r' = { r with buf := r.buf ++ [b] } ∧ raw = r.buf ++ [b] := by
  rcases rxStep_eq_done h with
    ⟨-, -, -, ho⟩ | ⟨_, -, -, -, -, -, ho⟩ | ⟨_, -, -, -, -, ho⟩ | ⟨b, ha, hU, hLen, hLast, hr, ho⟩ <;>
    cases ho
  exact ⟨b, ha, hU, hLen, hLast, hr, rfl⟩

/-- Settles O23: a byte behind a full buffer makes it too long, and the length is tested first. -/
theorem lengthTestBeforeFooterTest : Obligations.LengthTestBeforeFooterTest := by
  intro cfg r b hSynced hFull
  simp [rxStep, rxStore, frameExceeded, hSynced, hFull]

/-! ## The bounds a turn keeps -/

/-- The start values spend no budget, as a valid configuration has TIMEOUT_LIMIT at least 1 (R12). -/
theorem RxState.Live.of_init (cfg : ValidConfig) : RxState.init.Live cfg.val where
  discard := Nat.zero_le _
  timeout := cfg.property.2.1
  length := Nat.zero_le _
  empty _ := rfl
  synced h := nomatch h

theorem head?_append_of_head? {s : List Byte} {x b : Byte} (h : s.head? = some x) :
    (s ++ [b]).head? = some x := by
  cases s with
  | nil => nomatch h
  | cons y s => exact h

theorem RxState.Live.more {cfg : Config} {r r' : RxState} {a : Answer} (hLive : r.Live cfg)
    (hMax : 1 ≤ cfg.maxFrameLen) (h : rxStep cfg r a = .more r') : r'.Live cfg := by
  obtain ⟨hDiscard, hTimeout, hLength, hEmpty, hSynced⟩ := hLive
  rcases rxStep_eq_more h with
    ⟨-, hCount, rfl⟩ | ⟨b, -, -, -, hCount, rfl⟩ | ⟨-, -, rfl⟩ | ⟨b, -, hU, hLen, -, rfl⟩
  · exact ⟨hDiscard, by dsimp only; omega, hLength, hEmpty, hSynced⟩
  · exact ⟨hCount, hTimeout, hLength, hEmpty, hSynced⟩
  · exact ⟨hDiscard, hTimeout, hMax, nofun, fun _ => rfl⟩
  · exact ⟨hDiscard, hTimeout, by simpa using hLen, fun h => by simp [hU] at h,
      fun h => head?_append_of_head? (hSynced h)⟩

theorem RxState.Live.bounded {cfg : Config} {r : RxState} (hLive : r.Live cfg) : r.Bounded cfg :=
  ⟨hLive.discard.trans (Nat.le_succ _), hLive.timeout.le, hLive.length.trans (Nat.le_succ _)⟩

theorem RxState.Live.bounded_of_done {cfg : Config} {r r' : RxState} {a : Answer} {o : Ret (List Byte)}
    (hLive : r.Live cfg) (h : rxStep cfg r a = .done r' o) : r'.Bounded cfg := by
  have ⟨hDiscard, hTimeout, hLength⟩ := hLive.bounded
  rcases rxStep_eq_done h with
    ⟨-, hCount, rfl, -⟩ | ⟨b, -, -, -, -, rfl, -⟩ | ⟨b, -, -, -, rfl, -⟩ | ⟨b, -, -, hLen, -, rfl, -⟩
  · exact ⟨hDiscard, hCount.le, hLength⟩
  · exact ⟨Nat.succ_le_succ hLive.discard, hTimeout, hLength⟩
  · exact ⟨hDiscard, hTimeout, by simpa using hLive.length⟩
  · exact ⟨hDiscard, hTimeout, by simpa using hLive.length⟩

/-- A frame RECEIVE returns is the buffer, of the shape R168 gives it. -/
theorem RxState.Live.rawFrame_of_done {cfg : Config} {r r' : RxState} {a : Answer} {raw : List Byte}
    (hLive : r.Live cfg) (h : rxStep cfg r a = .done r' (.ok raw)) : raw = r'.buf ∧ RawFrame cfg raw := by
  obtain ⟨b, -, hU, hLen, hLast, rfl, rfl⟩ := rxStep_eq_done_ok h
  exact ⟨rfl, two_le_of_last2 hLast, by simpa using hLen, head?_append_of_head? (hLive.synced hU), hLast⟩

/-! ## The bytes among the answers -/

@[simp] theorem bytesOf_append (as bs : List Answer) : bytesOf (as ++ bs) = bytesOf as ++ bytesOf bs := by
  induction as with
  | nil => rfl
  | cons a as ih => cases a <;> simp [bytesOf, ih]

@[simp] theorem bytesOf_byte (b : Byte) : bytesOf [.byte b] = [b] := rfl

@[simp] theorem bytesOf_silence : bytesOf [.silence] = [] := rfl

@[simp] theorem bytesOf_map_byte (s : List Byte) : bytesOf (s.map .byte) = s := by
  induction s with
  | nil => rfl
  | cons b s ih => simp [bytesOf, ih]

/-- Every answer is a no-byte report or a byte. -/
theorem count_silence_add_length_bytesOf (as : List Answer) :
    as.count .silence + (bytesOf as).length = as.length := by
  induction as with
  | nil => rfl
  | cons a as ih => cases a <;> simp [bytesOf] <;> omega

/-! ## Footers in a growing buffer -/

theorem footerAt.add_two_le {s : List Byte} {k : Nat} (h : footerAt s k) : k + 2 ≤ s.length := by
  have hSecond := ((footerAt_iff s k).mp h).2
  have hInside : k + 1 < s.length := (List.getElem?_eq_some_iff.mp hSecond).1
  omega

/-- A footer inside the beginning of a sequence is a footer of the whole, and the other way round. -/
theorem footerAt_iff_of_prefix {s t : List Byte} {k : Nat} (hPrefix : s <+: t) (hk : k + 2 ≤ s.length) :
    footerAt s k ↔ footerAt t k := by
  obtain ⟨u, rfl⟩ := hPrefix
  rw [footerAt_iff, footerAt_iff, memByte, memByte, memByte, memByte, List.getElem?_append_left (by omega),
    List.getElem?_append_left (by omega)]

/-- The last two bytes are the footer exactly when a footer stands at the last place it can. -/
theorem last2_eq_footer_iff {s : List Byte} {k : Nat} (hk : k + 2 = s.length) :
    last2 s = footerBytes ↔ footerAt s k := by
  have hStart : s.length - 2 = k := by omega
  rw [last2, hStart, footerAt, memRead, hk]

/-! ## RECEIVE as a whole -/

/-- What the registers of a receiver that goes on say of the answers it has taken: how many reports, which
bytes were noise, and that the rest is the buffer, with no footer in it yet. -/
structure RxState.Seen (cfg : Config) (past : List Answer) (r : RxState) : Prop where
  live : r.Live cfg
  silences : past.count .silence = r.timeoutCnt
  bytes : ∃ noise, marker ∉ noise ∧ noise.length = r.discardCnt ∧ bytesOf past = noise ++ r.buf
  noFooter : ∀ j, ¬ footerAt r.buf j

theorem RxState.Seen.init (cfg : ValidConfig) : RxState.init.Seen cfg.val [] where
  live := .of_init cfg
  silences := rfl
  bytes := ⟨[], List.not_mem_nil, rfl, rfl⟩
  noFooter _ h := absurd h.add_two_le (by simp [RxState.init])

theorem RxState.Seen.more {cfg : Config} {past : List Answer} {r r' : RxState} {a : Answer}
    (hSeen : r.Seen cfg past) (hMax : 1 ≤ cfg.maxFrameLen) (h : rxStep cfg r a = .more r') :
    r'.Seen cfg (past ++ [a]) := by
  have hLive' := hSeen.live.more hMax h
  obtain ⟨hLive, hSilences, ⟨noise, hClean, hLength, hBytes⟩, hNoFooter⟩ := hSeen
  rcases rxStep_eq_more h with
    ⟨rfl, -, rfl⟩ | ⟨b, rfl, hU, hb, -, rfl⟩ | ⟨rfl, hU, rfl⟩ | ⟨b, rfl, -, -, hLast, rfl⟩
  · exact ⟨hLive', by simp [hSilences], ⟨noise, hClean, hLength, by simpa using hBytes⟩, hNoFooter⟩
  · refine ⟨hLive', by simp [hSilences], ⟨noise ++ [b], ?_, by simp [hLength], ?_⟩, hNoFooter⟩
    · simp [hClean, Ne.symm hb]
    · simp [hBytes, hLive.empty hU]
  · refine ⟨hLive', by simp [hSilences], ⟨noise, hClean, hLength, ?_⟩, ?_⟩
    · simp [hBytes, hLive.empty hU]
    · exact fun j hFooter => absurd hFooter.add_two_le (by simp)
  · refine ⟨hLive', by simp [hSilences], ⟨noise, hClean, hLength, by simp [hBytes]⟩, fun j hFooter => ?_⟩
    have hInside := hFooter.add_two_le
    by_cases hOld : j + 2 ≤ r.buf.length
    · exact hNoFooter j ((footerAt_iff_of_prefix (List.prefix_append _ _) hOld).mpr hFooter)
    · have hEnd : j + 2 = (r.buf ++ [b]).length := by simp at hInside ⊢; omega
      exact hLast ((last2_eq_footer_iff hEnd).mpr hFooter)

/-- The registers account for every answer taken. -/
theorem RxState.Seen.length_eq {cfg : Config} {past : List Answer} {r : RxState} (h : r.Seen cfg past) :
    past.length = r.timeoutCnt + r.discardCnt + r.buf.length := by
  obtain ⟨-, hSilences, ⟨noise, -, hLength, hBytes⟩, -⟩ := h
  have hTotal := count_silence_add_length_bytesOf past
  rw [hSilences, hBytes, List.length_append, hLength] at hTotal
  omega

/-- A receiver that goes on has taken fewer answers than its three budgets allow (R175). -/
theorem RxState.Seen.length_lt_bound {cfg : Config} {past : List Answer} {r : RxState}
    (h : r.Seen cfg past) : past.length < receiveBound cfg := by
  have ⟨hDiscard, hTimeout, hLength, _, _⟩ := h.live
  rw [h.length_eq, receiveBound]
  omega

theorem one_le_maxFrameLen (cfg : ValidConfig) : 1 ≤ cfg.val.maxFrameLen :=
  le_trans (by decide) cfg.property.1

/-- RECEIVE on a list of answers has taken them all and goes on, or it ended with the first turn that
ends. -/
inductive ReceiveOutcome (cfg : Config) (as : List Answer) : RxRun → Prop
  | pending {r : RxState} (seen : r.Seen cfg as) : ReceiveOutcome cfg as (.pending r)
  | ended {past : List Answer} {a : Answer} {rest : List Answer} {r r' : RxState} {o : Ret (List Byte)}
      (split : as = past ++ a :: rest) (seen : r.Seen cfg past) (turn : rxStep cfg r a = .done r' o) :
      ReceiveOutcome cfg as (.ended r' o (past.length + 1))

theorem receiveFrom_outcome (cfg : ValidConfig) {past : List Answer} {r : RxState}
    (hSeen : r.Seen cfg.val past) (as : List Answer) :
    ReceiveOutcome cfg.val (past ++ as) (receiveFrom cfg.val r past.length as) := by
  induction as generalizing past r with
  | nil =>
    rw [receiveFrom_nil, List.append_nil]
    exact .pending hSeen
  | cons a as ih =>
    cases hTurn : rxStep cfg.val r a with
    | more r' =>
      have hNext := ih (hSeen.more (one_le_maxFrameLen cfg) hTurn)
      rwa [List.append_assoc, List.length_append, List.length_singleton, List.singleton_append,
        ← receiveFrom_more _ _ hTurn] at hNext
    | done r' o =>
      rw [receiveFrom_done _ _ hTurn]
      exact .ended rfl hSeen hTurn

theorem receive_outcome (cfg : ValidConfig) (as : List Answer) :
    ReceiveOutcome cfg.val as (receive cfg.val as) :=
  receiveFrom_outcome cfg (.init cfg) as

end Sys2Proof.Machine
end

-- ==== When RECEIVE ends, and with what ====
section
/-! PROOFS. The laws of 42_stream_receiver section 4, each read off the way RECEIVE ended
(`ReceiveOutcome`): the bound on the answers, the timeout budget, the frame returned, resynchronisation
behind noise, and the early footer of 70_reset R284. -/

namespace Sys2Proof.Machine

theorem take_length_add_one {α : Type} (past : List α) (a : α) (rest : List α) :
    (past ++ a :: rest).take (past.length + 1) = past ++ [a] := by
  simp [List.take_append]

/-- R175: a list as long as the bound is never used up. -/
theorem receive_ends (cfg : ValidConfig) {as : List Answer} (hLong : receiveBound cfg.val ≤ as.length) :
    ∃ r o k, receive cfg.val as = .ended r o k ∧ k ≤ receiveBound cfg.val := by
  have hOutcome := receive_outcome cfg as
  cases hRun : receive cfg.val as with
  | pending r =>
    rw [hRun] at hOutcome
    cases hOutcome with
    | pending hSeen => exact absurd hSeen.length_lt_bound (by omega)
  | ended r o k =>
    rw [hRun] at hOutcome
    cases hOutcome with
    | ended _ hSeen _ => exact ⟨r, o, _, rfl, hSeen.length_lt_bound⟩

/-- Settles O17: a receiver that goes on has taken fewer answers than the bound. -/
theorem receiveEndsWithinBound : Obligations.ReceiveEndsWithinBound :=
  fun cfg _ hLong => receive_ends cfg hLong

/-- R167: a Timeout ends RECEIVE at the report that makes the count the limit. -/
theorem receive_timeout {cfg : ValidConfig} {as : List Answer} {r : RxState} {n k : Nat}
    (hRun : receive cfg.val as = .ended r (.fail (.timeout n)) k) :
    n = cfg.val.timeoutLimit ∧ ∃ past rest, as = past ++ Answer.silence :: rest ∧ k = past.length + 1
      ∧ past.count Answer.silence + 1 = cfg.val.timeoutLimit := by
  have hOutcome := receive_outcome cfg as
  rw [hRun] at hOutcome
  obtain _ | @⟨past, a, rest, r₀, _, _, hSplit, hSeen, hTurn⟩ := hOutcome
  rcases rxStep_eq_done hTurn with
    ⟨rfl, hCount, -, ho⟩ | ⟨_, -, -, -, -, -, ho⟩ | ⟨_, -, -, -, -, ho⟩ | ⟨_, -, -, -, -, -, ho⟩ <;>
    cases ho
  exact ⟨rfl, past, rest, hSplit, rfl, by rw [hSeen.silences, hCount]⟩

/-- Settles O19: the count is that of the reports taken, and the last of them ended RECEIVE. -/
theorem timeoutCountsAllSilences : Obligations.TimeoutCountsAllSilences := by
  intro cfg as r n k hRun
  obtain ⟨rfl, past, rest, rfl, rfl, hCount⟩ := receive_timeout hRun
  refine ⟨rfl, ?_, Nat.succ_pos _, by simp⟩
  rw [take_length_add_one]
  simpa using hCount

/-- Settles O18: on reports alone, going on and ending both fix how many there were. -/
theorem silentTransportTimesOut : Obligations.SilentTransportTimesOut := by
  intro cfg n
  have hOutcome := receive_outcome cfg (List.replicate n .silence)
  generalize receive cfg.val (List.replicate n .silence) = run at hOutcome
  obtain @⟨r, hSeen⟩ | @⟨past, a, rest, r, r', o, hSplit, hSeen, hTurn⟩ := hOutcome
  · have hFewer : n < cfg.val.timeoutLimit := by
      have hCount := hSeen.silences
      rw [List.count_replicate_self] at hCount
      exact hCount ▸ hSeen.live.timeout
    exact ⟨fun _ => ⟨r, rfl⟩, fun hMany => absurd hFewer hMany.not_gt⟩
  · obtain ⟨hLength, hAll⟩ := List.eq_replicate_iff.mp hSplit.symm
    have hSilence : a = .silence := hAll a (by simp)
    have hPast : past.count .silence = past.length :=
      List.count_eq_length.mpr fun b hb => (hAll b (by simp [hb])).symm
    rw [hSeen.silences] at hPast
    rcases rxStep_eq_done hTurn with
      ⟨-, hCount, -, rfl⟩ | ⟨_, ha, -⟩ | ⟨_, ha, -⟩ | ⟨_, ha, -⟩
    · rw [hPast] at hCount
      have hTaken : cfg.val.timeoutLimit ≤ n := by
        simp at hLength
        omega
      exact ⟨fun hFew => absurd hFew hTaken.not_gt, fun _ => ⟨r', by rw [hCount]⟩⟩
    all_goals cases hSilence.symm.trans ha

/-- Settles O21: the buffer and the last byte are the frame, and the registers account for the rest. -/
theorem receivedFrameEndsAtFirstFooter : Obligations.ReceivedFrameEndsAtFirstFooter := by
  intro cfg as r raw k hRun
  have hOutcome := receive_outcome cfg as
  rw [hRun] at hOutcome
  obtain _ | @⟨past, a, rest, r₀, _, _, rfl, hSeen, hTurn⟩ := hOutcome
  have hRaw := (hSeen.live.rawFrame_of_done hTurn).2
  obtain ⟨b, rfl, -, -, -, -, rfl⟩ := rxStep_eq_done_ok hTurn
  obtain ⟨hLive, hSilences, ⟨noise, hClean, hLength, hBytes⟩, hNoFooter⟩ := hSeen
  rw [take_length_add_one]
  refine ⟨hRaw, ⟨noise, hClean, hLength ▸ hLive.discard, by simp [hBytes]⟩, fun j hj hFooter => ?_, ?_⟩
  · have hInside : j + 2 ≤ r₀.buf.length := by simp at hj; omega
    exact hNoFooter j ((footerAt_iff_of_prefix (List.prefix_append _ _) hInside).mpr hFooter)
  · simpa [hSilences] using hLive.timeout

/-! ## The first marker in a byte sequence -/

/-- What stands before the first marker is determined by the whole sequence. -/
theorem prefix_of_marker {noise noise' s t : List Byte} (hClean : marker ∉ noise) (hClean' : marker ∉ noise')
    (hPrefix : noise' ++ marker :: t <+: noise ++ marker :: s) : noise' = noise ∧ t <+: s := by
  induction noise generalizing noise' with
  | nil =>
    cases noise' with
    | nil => exact ⟨rfl, (List.cons_prefix_cons.mp hPrefix).2⟩
    | cons x noise' =>
      have hHead := (List.cons_prefix_cons.mp hPrefix).1
      simp [hHead] at hClean'
  | cons y noise ih =>
    cases noise' with
    | nil =>
      have hHead := (List.cons_prefix_cons.mp hPrefix).1
      simp [hHead] at hClean
    | cons x noise' =>
      obtain ⟨rfl, hTail⟩ := List.cons_prefix_cons.mp hPrefix
      obtain ⟨rfl, hRest⟩ := ih (by simp_all) (by simp_all) hTail
      exact ⟨rfl, hRest⟩

/-- A sequence without the marker ends before the first marker. -/
theorem prefix_of_not_mem_marker {noise n s : List Byte} (hn : marker ∉ n)
    (hPrefix : n <+: noise ++ marker :: s) : n <+: noise := by
  have hUpTo : noise ++ [marker] <+: noise ++ marker :: s := ⟨s, by simp⟩
  rcases List.prefix_or_prefix_of_prefix hPrefix hUpTo with hShort | hLong
  · rcases List.prefix_concat_iff.mp hShort with rfl | hBefore
    · simp at hn
    · exact hBefore
  · exact absurd (hLong.mem (by simp)) hn

theorem eq_cons_of_head? {s : List Byte} {b : Byte} (h : s.head? = some b) : ∃ t, s = b :: t :=
  ⟨s.tail, (List.cons_head?_tail h).symm⟩

/-- A synced receiver of noise and a marked sequence has discarded just the noise; its buffer is the
beginning of the rest. -/
theorem RxState.Seen.of_synced {cfg : Config} {past : List Answer} {r : RxState} {noise f t : List Byte}
    (hSeen : r.Seen cfg past) (hSynced : r.unsynced = false) (hClean : marker ∉ noise)
    (hMarker : f.head? = some marker) (hPrefix : bytesOf past ++ t <+: noise ++ f) :
    r.discardCnt = noise.length ∧ bytesOf past = noise ++ r.buf ∧ r.buf ++ t <+: f := by
  obtain ⟨noise', hClean', hLength, hBytes⟩ := hSeen.bytes
  obtain ⟨u, hBuf⟩ := eq_cons_of_head? (hSeen.live.synced hSynced)
  obtain ⟨v, rfl⟩ := eq_cons_of_head? hMarker
  rw [hBytes, hBuf, List.append_assoc, List.cons_append] at hPrefix
  obtain ⟨rfl, hRest⟩ := prefix_of_marker hClean hClean' hPrefix
  refine ⟨hLength.symm, hBytes, ?_⟩
  rw [hBuf]
  exact List.cons_prefix_cons.mpr ⟨rfl, hRest⟩

/-- An unsynced receiver has taken nothing but noise, all of it counted. -/
theorem RxState.Seen.of_unsynced {cfg : Config} {past : List Answer} {r : RxState} {noise f t : List Byte}
    (hSeen : r.Seen cfg past) (hUnsynced : r.unsynced = true) (hMarker : f.head? = some marker)
    (ht : marker ∉ t) (hPrefix : bytesOf past ++ t <+: noise ++ f) :
    r.discardCnt = (bytesOf past).length ∧ bytesOf past ++ t <+: noise := by
  obtain ⟨noise', hClean', hLength, hBytes⟩ := hSeen.bytes
  rw [hSeen.live.empty hUnsynced, List.append_nil] at hBytes
  obtain ⟨v, rfl⟩ := eq_cons_of_head? hMarker
  rw [hBytes] at hPrefix ⊢
  exact ⟨hLength.symm, prefix_of_not_mem_marker (by simp [hClean', ht]) hPrefix⟩

/-! ## Noise, and a frame behind it -/

section
variable {cfg : ValidConfig} {as : List Answer} {noise f : List Byte}

/-- The last byte taken follows the bytes taken before it. -/
theorem bytesOf_concat_prefix {past rest : List Answer} {b : Byte}
    (hBytes : bytesOf (past ++ .byte b :: rest) = noise ++ f) : bytesOf past ++ [b] <+: noise ++ f :=
  ⟨bytesOf rest, by rw [← hBytes, bytesOf_append]; simp [bytesOf]⟩

/-- With fewer reports than the limit no Timeout comes. -/
theorem not_timeout_of_count_lt {past rest : List Answer} {r : RxState}
    (hReports : (past ++ Answer.silence :: rest).count .silence < cfg.val.timeoutLimit)
    (hSeen : r.Seen cfg.val past) : r.timeoutCnt + 1 ≠ cfg.val.timeoutLimit := by
  have hTaken := hSeen.silences
  simp at hReports
  omega

/-- More noise than the bound: RECEIVE fails at the discard that exceeds it (R164). -/
theorem receive_noise_overrun (hClean : marker ∉ noise) (hBytes : bytesOf as = noise ++ f)
    (hMarker : f.head? = some marker) (hReports : as.count .silence < cfg.val.timeoutLimit)
    (hNoise : cfg.val.noiseBound < noise.length) :
    ∃ r k, receive cfg.val as = .ended r (.fail (.malformedFrame .noiseOverrun)) k
      ∧ bytesOf (as.take k) = noise.take (cfg.val.noiseBound + 1) := by
  have hOutcome := receive_outcome cfg as
  generalize receive cfg.val as = run at hOutcome
  have hUnsynced : ∀ {past : List Answer} {r : RxState} {t : List Byte}, r.Seen cfg.val past →
      bytesOf past ++ t <+: noise ++ f → r.unsynced = true := by
    intro past r t hSeen hPrefix
    by_contra hSynced
    have hCount := (hSeen.of_synced (by simpa using hSynced) hClean hMarker hPrefix).1
    exact absurd hSeen.live.discard (by omega)
  obtain @⟨r, hSeen⟩ | @⟨past, a, rest, r, r', o, rfl, hSeen, hTurn⟩ := hOutcome
  · have hPrefix : bytesOf as ++ [] <+: noise ++ f := by simp [hBytes]
    have hShort := (hSeen.of_unsynced (hUnsynced hSeen hPrefix) hMarker List.not_mem_nil hPrefix).2.length_le
    obtain ⟨v, rfl⟩ := eq_cons_of_head? hMarker
    simp [hBytes] at hShort
  · rcases rxStep_eq_done hTurn with
      ⟨rfl, hCount, -⟩ | ⟨b, rfl, hU, hb, hOver, -, rfl⟩ | ⟨b, rfl, hSynced, -⟩ | ⟨b, rfl, hSynced, -⟩
    · exact absurd hCount (not_timeout_of_count_lt hReports hSeen)
    · obtain ⟨hCount, hPrefix⟩ :=
        hSeen.of_unsynced hU hMarker (by simpa using Ne.symm hb) (bytesOf_concat_prefix hBytes)
      have hTaken : (bytesOf past ++ [b]).length = cfg.val.noiseBound + 1 := by
        have := hSeen.live.discard
        simp
        omega
      refine ⟨r', _, rfl, ?_⟩
      rw [take_length_add_one, bytesOf_append, bytesOf_byte, ← hTaken]
      exact List.prefix_iff_eq_take.mp hPrefix
    all_goals
      rw [hUnsynced hSeen (bytesOf_concat_prefix hBytes)] at hSynced
      nomatch hSynced

/-- A marked sequence behind noise within the bound: RECEIVE returns it up to its first footer. -/
theorem receive_first_footer {j : Nat} (hClean : marker ∉ noise) (hBytes : bytesOf as = noise ++ f)
    (hMarker : f.head? = some marker) (hReports : as.count .silence < cfg.val.timeoutLimit)
    (hNoise : noise.length ≤ cfg.val.noiseBound) (hFooter : footerAt f j)
    (hFirst : ∀ k < j, ¬ footerAt f k) (hMax : j + 2 ≤ cfg.val.maxFrameLen) :
    ∃ r k, k ≤ as.length ∧ receive cfg.val as = .ended r (.ok (f.take (j + 2))) k
      ∧ bytesOf (as.take k) = noise ++ f.take (j + 2) := by
  have hOutcome := receive_outcome cfg as
  generalize receive cfg.val as = run at hOutcome
  have hShort : ∀ {past : List Answer} {r : RxState} {t : List Byte}, r.Seen cfg.val past →
      r.buf ++ t <+: f → r.buf.length < j + 2 := by
    intro past r t hSeen hPrefix
    by_contra hLong
    exact hSeen.noFooter j ((footerAt_iff_of_prefix ((List.prefix_append _ _).trans hPrefix)
      (by omega)).mpr hFooter)
  obtain @⟨r, hSeen⟩ | @⟨past, a, rest, r, r', o, rfl, hSeen, hTurn⟩ := hOutcome
  · have hPrefix : bytesOf as ++ [] <+: noise ++ f := by simp [hBytes]
    have hInside := hFooter.add_two_le
    cases hU : r.unsynced with
    | true =>
      have := (hSeen.of_unsynced hU hMarker List.not_mem_nil hPrefix).2.length_le
      simp [hBytes] at this
      simp [this] at hInside
    | false =>
      obtain ⟨-, hTaken, hBuf⟩ := hSeen.of_synced hU hClean hMarker hPrefix
      have := hShort hSeen hBuf
      rw [List.append_cancel_left (hTaken.symm.trans hBytes)] at this
      omega
  · rcases rxStep_eq_done hTurn with
      ⟨rfl, hCount, -⟩ | ⟨b, rfl, hU, hb, hOver, -⟩ | ⟨b, rfl, hU, hOver, -⟩
        | ⟨b, rfl, hU, hLen, hLast, -, rfl⟩
    · exact absurd hCount (not_timeout_of_count_lt hReports hSeen)
    · obtain ⟨hCount, hPrefix⟩ :=
        hSeen.of_unsynced hU hMarker (by simpa using Ne.symm hb) (bytesOf_concat_prefix hBytes)
      have := hPrefix.length_le
      simp at this
      omega
    · have := hShort hSeen (hSeen.of_synced hU hClean hMarker (bytesOf_concat_prefix hBytes)).2.2
      omega
    · obtain ⟨-, hTaken, hPrefix⟩ := hSeen.of_synced hU hClean hMarker (bytesOf_concat_prefix hBytes)
      have hAtMost := hShort hSeen hPrefix
      obtain ⟨k, hk⟩ : ∃ k, k + 2 = (r.buf ++ [b]).length := ⟨_, Nat.sub_add_cancel (two_le_of_last2 hLast)⟩
      have hLastFooter : footerAt f k :=
        (footerAt_iff_of_prefix hPrefix hk.le).mp ((last2_eq_footer_iff hk).mp hLast)
      have hAtLeast : ¬ k < j := fun hBefore => hFirst k hBefore hLastFooter
      have hLength : (r.buf ++ [b]).length = j + 2 := by
        simp at hk ⊢
        omega
      have hFrame : r.buf ++ [b] = f.take (j + 2) := hLength ▸ List.prefix_iff_eq_take.mp hPrefix
      refine ⟨r', past.length + 1, by simp, by rw [hFrame], ?_⟩
      rw [take_length_add_one, bytesOf_append, bytesOf_byte, hTaken, List.append_assoc, hFrame]

end

theorem encodeFrame_head? (d : Byte) (p : List Byte) : (encodeFrame d p).head? = some marker := rfl

/-- A frame ends with its footer. -/
theorem footerAt_encodeFrame (d : Byte) (p : List Byte) : footerAt (encodeFrame d p) (p.length + 4) :=
  (footerAt_iff _ _).mpr (memByte_trailer_encodeFrame d p).2

/-- Settles O20: the frame's first footer is its own, and noise above the bound never reaches it. -/
theorem resynchronisesAfterNoise : Obligations.ResynchronisesAfterNoise := by
  intro cfg noise d p as hClean hBytes hReports hMax hNoEarly
  rw [encodeFrame_length] at hMax hNoEarly
  refine ⟨fun hNoise => ?_, receive_noise_overrun hClean hBytes (encodeFrame_head? d p) hReports⟩
  obtain ⟨r, k, -, hRun, -⟩ := receive_first_footer hClean hBytes (encodeFrame_head? d p) hReports hNoise
    (footerAt_encodeFrame d p) (fun k hk => hNoEarly k (by omega)) hMax
  rw [List.take_of_length_le (encodeFrame_length d p).le] at hRun
  exact ⟨r, k, hRun, decodeFrame_encodeFrame d p⟩

/-- Settles O22: the case without noise and without reports, in which every answer is a byte taken. -/
theorem earlyFooterCutsTheFrame : Obligations.EarlyFooterCutsTheFrame := by
  intro cfg f rest j hMarker hInside hMax hFooter hFirst
  have hWhole : f <+: f ++ rest := List.prefix_append f rest
  have hNoReports : ((f ++ rest).map Answer.byte).count .silence < cfg.val.timeoutLimit := by
    rw [List.count_eq_zero.mpr (by simp)]
    exact cfg.property.2.1
  have hFirst' : ∀ k < j, ¬ footerAt (f ++ rest) k := fun k hk h =>
    hFirst k hk ((footerAt_iff_of_prefix hWhole (by omega)).mpr h)
  obtain ⟨r, k, hk, hRun, hTaken⟩ := receive_first_footer (noise := []) (f := f ++ rest) List.not_mem_nil
    (bytesOf_map_byte (f ++ rest)) (by simp [hMarker]) hNoReports (Nat.zero_le _)
    ((footerAt_iff_of_prefix hWhole hInside).mp hFooter) hFirst' hMax
  have hCount : k = j + 2 := by
    rw [← List.map_take, bytesOf_map_byte] at hTaken
    have := congrArg List.length hTaken
    simp at this hk
    omega
  refine ⟨r, ?_⟩
  rw [hRun, hCount, List.take_append_of_le_length hInside]

end Sys2Proof.Machine
end

-- ==== The block's step, phase by phase ====
section
/-! PROOFS. What each busy phase answers (43_transaction_driver R183 to R190), what a step of the block
leaves alone, and the two ways it can stop (42_stream_receiver R176, 70_reset R276). -/

namespace Sys2Proof.Machine

/-! ## One equation for each phase -/

theorem onTransport_of_isOpen {s : State} (k : State → Step) (hOpen : s.tp.isOpen = true) :
    onTransport s k = k s :=
  if_pos hOpen

theorem sequence_of_preFlush {s : State} (hPhase : s.pc = .preFlush) (hOpen : s.tp.isOpen = true) :
    sequence s = .next (preFlushStep s) := by
  simp [sequence, hPhase, onTransport_of_isOpen _ hOpen]

theorem sequence_of_send {s : State} (hPhase : s.pc = .send) (hOpen : s.tp.isOpen = true) :
    sequence s = .next (sendStep s) := by
  simp [sequence, hPhase, onTransport_of_isOpen _ hOpen]

theorem sequence_of_receive {s : State} {a : Answer} {u : Transport} (hPhase : s.pc = .receive)
    (hOpen : s.tp.isOpen = true) (hRead : s.tp.rxEvent = some (a, u)) :
    sequence s = .next (receiveAnswer ((s.setTp u).log (.rxEvent a)) a) := by
  simp [sequence, hPhase, onTransport_of_isOpen _ hOpen, receiveStep, hRead]

theorem sequence_of_postFlush {s : State} (hPhase : s.pc = .postFlush) (hOpen : s.tp.isOpen = true) :
    sequence s = .next s.complete := by
  simp [sequence, hPhase, onTransport_of_isOpen _ hOpen]

/-! ## What one answer does in RECEIVE -/

theorem receiveAnswer_of_more {s : State} {a : Answer} {r : RxState}
    (hTurn : rxStep s.cfg.val s.rx a = .more r) : receiveAnswer s a = { s with rx := r } := by
  rw [receiveAnswer_eq, State.conf_eq, hTurn]

theorem receiveAnswer_of_ok {s : State} {a : Answer} {r : RxState} {raw : List Byte}
    (hTurn : rxStep s.cfg.val s.rx a = .done r (.ok raw)) :
    receiveAnswer s a = { s with rx := r, pc := .validate } := by
  rw [receiveAnswer_eq, State.conf_eq, hTurn]

theorem receiveAnswer_of_fail {s : State} {a : Answer} {r : RxState} {e : Failure}
    (hTurn : rxStep s.cfg.val s.rx a = .done r (.fail e)) :
    receiveAnswer s a = { s with rx := r, res := some (.fail e), pc := .postFlush } := by
  rw [receiveAnswer_eq, State.conf_eq, hTurn]

/-- The registers as a turn leaves them, whether it goes on or ends. -/
def RxStep.regs : RxStep → RxState
  | .more r => r
  | .done r _ => r

/-- An answer writes the receiver's registers, the phase and the result, and nothing else. -/
theorem receiveAnswer_writes (s : State) (a : Answer) :
    receiveAnswer s a = { s with rx := (rxStep s.cfg.val s.rx a).regs, pc := (receiveAnswer s a).pc,
                                 res := (receiveAnswer s a).res } := by
  rw [receiveAnswer_eq, State.conf_eq]
  split <;> rename_i hTurn <;> rw [hTurn] <;> rfl

theorem rxStep_regs_silence (cfg : Config) (r : RxState) :
    (rxStep cfg r .silence).regs = { r with timeoutCnt := r.timeoutCnt + 1 } := by
  simp only [rxStep, rxSilence]
  split <;> rfl

theorem rxStep_regs_noise {cfg : Config} {r : RxState} {b : Byte} (hUnsynced : r.unsynced = true)
    (hNoise : b ≠ marker) : (rxStep cfg r (.byte b)).regs = { r with discardCnt := r.discardCnt + 1 } := by
  simp only [rxStep, hUnsynced, if_true, if_neg hNoise, rxDiscard]
  split <;> rfl

theorem rxStep_regs_marker {cfg : Config} {r : RxState} (hUnsynced : r.unsynced = true) :
    (rxStep cfg r (.byte marker)).regs = { r with unsynced := false, buf := [marker] } := by
  simp [rxStep, hUnsynced, rxSync, RxStep.regs]

theorem rxStep_regs_synced {cfg : Config} {r : RxState} (b : Byte) (hSynced : r.unsynced = false) :
    (rxStep cfg r (.byte b)).regs = { r with buf := r.buf ++ [b] } := by
  have hTurn : rxStep cfg r (.byte b) = rxStore cfg r b := by simp [rxStep, hSynced]
  rw [hTurn]
  simp only [rxStore, memAppend_eq]
  split
  · rfl
  · split <;> rfl

/-- A synced receiver stays synced and discards nothing. -/
theorem rxStep_regs_keep_sync {cfg : Config} {r : RxState} (a : Answer) (hSynced : r.unsynced = false) :
    (rxStep cfg r a).regs.unsynced = false ∧ (rxStep cfg r a).regs.discardCnt = r.discardCnt := by
  cases a with
  | silence => rw [rxStep_regs_silence]; exact ⟨hSynced, rfl⟩
  | byte b => rw [rxStep_regs_synced b hSynced]; exact ⟨hSynced, rfl⟩

/-- The one byte a turn stores stands behind the buffer. -/
theorem memByte_rxStep_regs {cfg : Config} {r : RxState} (a : Answer)
    (hEmpty : r.unsynced = true → r.buf = []) {k : Nat} (hk : k ≠ r.buf.length) :
    memByte (rxStep cfg r a).regs.buf k = memByte r.buf k := by
  have hAppend : ∀ b, memByte (r.buf ++ [b]) k = memByte r.buf k := fun b => by
    by_cases hInside : k < r.buf.length
    · exact List.getElem?_append_left hInside
    · have hBeyond : (r.buf ++ [b]).length ≤ k := by simp; omega
      rw [memByte, memByte, List.getElem?_eq_none hBeyond, List.getElem?_eq_none (by omega)]
  cases a with
  | silence => rw [rxStep_regs_silence]
  | byte b =>
    cases hU : r.unsynced with
    | false => rw [rxStep_regs_synced b hU]; exact hAppend b
    | true =>
      by_cases hb : b = marker
      · rw [hb, rxStep_regs_marker hU]
        simpa [hEmpty hU] using hAppend marker
      · rw [rxStep_regs_noise hU hb]

/-- Settles O30: the one answer, and then the arm it runs. -/
theorem receiveRunsOneArm : Obligations.ReceiveRunsOneArm := by
  intro s a u hPhase hOpen hRead
  rw [sequence_of_receive hPhase hOpen hRead]
  refine ⟨fun r hTurn => ?_, fun r raw hTurn => ⟨?_, ?_⟩, fun r e hTurn => ?_⟩
  · rw [receiveAnswer_of_more (s := (s.setTp u).log (.rxEvent a)) hTurn]
    rfl
  · obtain ⟨b, -, -, -, -, rfl, rfl⟩ := rxStep_eq_done_ok hTurn
    rfl
  · rw [receiveAnswer_of_ok (s := (s.setTp u).log (.rxEvent a)) hTurn]
    rfl
  · rw [receiveAnswer_of_fail (s := (s.setTp u).log (.rxEvent a)) hTurn]
    rfl

/-- Settles O59: the two answers a transport that keeps its contract can give. -/
theorem readTakesOldestByte : Obligations.ReadTakesOldestByte := by
  intro t hAnswering
  constructor
  · intro b q hTin
    simp [Transport.rxEvent, Transport.takeByte, hAnswering, hTin]
  · intro hTin
    simp [Transport.rxEvent, Transport.takeByte, hAnswering, hTin]

/-! ## The transition table -/

/-- Settles O29: the busy rows are the cases of `sequence_next_cases`. -/
theorem phaseTransitions : Obligations.PhaseTransitions := by
  intro s t hBusy hNext
  rcases sequence_next_cases hNext with
    ⟨hIdle, -⟩ | ⟨hPhase, -, rfl⟩ | ⟨hPhase, -, rfl⟩ | ⟨hPhase, -, a, u, hRead, rfl⟩ | ⟨hPhase, rfl⟩
      | ⟨hPhase, rfl⟩ | ⟨hPhase, -, rfl⟩
  · exact absurd hIdle hBusy
  · exact .inl ⟨hPhase, rfl⟩
  · exact .inr (.inl ⟨hPhase, rfl⟩)
  · refine .inr (.inr (.inl ⟨hPhase, a, u, hRead, ?_⟩))
    cases hTurn : rxStep s.cfg.val s.rx a with
    | more r =>
      rw [receiveAnswer_of_more (s := (s.setTp u).log (.rxEvent a)) hTurn]
      exact .inl ⟨hPhase, r, rfl⟩
    | done r o =>
      cases o with
      | ok raw =>
        rw [receiveAnswer_of_ok (s := (s.setTp u).log (.rxEvent a)) hTurn]
        exact .inr (.inl ⟨rfl, r, raw, rfl⟩)
      | fail e =>
        rw [receiveAnswer_of_fail (s := (s.setTp u).log (.rxEvent a)) hTurn]
        exact .inr (.inr ⟨rfl, r, e, rfl, rfl⟩)
  · refine .inr (.inr (.inr (.inl ⟨hPhase, ?_⟩)))
    cases hDecoded : decodeFrame s.rx.buf with
    | ok f =>
      rw [validateStep_of_ok hDecoded]
      exact .inl ⟨rfl, f, rfl⟩
    | fail e =>
      rw [validateStep_of_fail hDecoded]
      exact .inr ⟨rfl, e, rfl, rfl⟩
  · rw [dispatchStep_eq]
    exact .inr (.inr (.inr (.inr (.inl ⟨hPhase, rfl, _, rfl⟩))))
  · exact .inr (.inr (.inr (.inr (.inr ⟨hPhase, rfl⟩))))

/-- Settles O34: the flushes, the delivery and the return to IDLE of `State.complete`. -/
theorem completionDeliversResult : Obligations.CompletionDeliversResult := by
  intro s r hPhase hOpen hRes
  rw [sequence_of_postFlush hPhase hOpen, State.complete_eq, State.readRes_of_some hRes]
  rfl

/-! ## Commands at the port -/

/-- Settles O25: the port admits no such power, so the offer is refused. -/
theorem powerOutOfRangeRefused : Obligations.PowerOutOfRangeRefused := by
  intro s p hIdle hRange
  have hRefused : taken (.setpwr p) = none := by
    simp [taken, powerOperand_none (p := p) (by omega)]
  rw [exec_eq_offer, hRefused, offer_idle_none hIdle, refusePower_eq]

/-- A busy block's step is the sequencer's, whatever is on the port. -/
theorem step_of_busy {s : State} (hNoReset : s.resetIn = false) (hBusy : s.pc ≠ .idle) :
    step s = sequence (s.lineMoves.setPort none) := by
  cases hPort : s.port with
  | some i => rw [step_command hNoReset hPort, exec_eq_offer, offer_busy (by simpa using hBusy)]
  | none =>
    have hSame : s.lineMoves.setPort none = s.lineMoves := by rw [← hPort]; rfl
    rw [step_busy hNoReset hPort hBusy, hSame, State.lineMoves_busy hBusy]

/-- Settles O26: behind the line's move the two states are the same but for a port that is emptied. -/
theorem busyBlockIgnoresOffers : Obligations.BusyBlockIgnoresOffers := by
  intro s i hBusy hNoReset
  rw [step_of_busy (s := { s with port := some i }) hNoReset hBusy,
    step_of_busy (s := { s with port := none }) hNoReset hBusy]
  rfl

theorem Transport.arrive_tout (t : Transport) : t.arrive.tout = t.tout := by
  rcases t.arrive_cases with ⟨_, e⟩ | ⟨_, _, _, e⟩ | ⟨_, _, e⟩ <;> rw [e]

/-- Bytes leave the output buffer from the front only (60_exceptions R257). -/
theorem Transport.move_tout_suffix (t : Transport) : t.move.tout <:+ t.tout := by
  rw [← t.arrive_tout]
  exact List.drop_suffix _ _

@[simp] theorem State.lineMoves_tin (s : State) : s.lineMoves.tp.tin = s.tp.arrive.tin := by
  rw [State.lineMoves_eq]
  split <;> simp

/-- Settles O28: a step meets the command on the port, and the line's move writes the transport alone. -/
theorem stepRunsOfferedCommand : Obligations.StepRunsOfferedCommand := by
  refine ⟨fun s i hNoReset hPort => step_command hNoReset hPort, fun s nbits w i hWord => ?_, fun s => ?_⟩
  · rw [State.withFetchWord, hWord]
    exact step_command rfl rfl
  · refine ⟨rfl, s.lineMoves_isOpen, ?_, fun hBusy => ?_⟩
    · rw [State.lineMoves_tin]
      exact s.tp.prefix_arrive_tin
    · rw [State.lineMoves_busy hBusy]
      exact s.tp.move_tout_suffix

theorem step_of_preFlush {s : State} (hPhase : s.pc = .preFlush) (hPort : s.port = none)
    (hNoReset : s.resetIn = false) (hOpen : s.tp.isOpen = true) :
    step s = .next { s with pc := .send, tp := s.tp.move.flushIn.flushOut,
                            trace := s.trace ++ [.flushIn, .flushOut] } := by
  have hMoved : ({ s with tp := s.tp.move } : State).tp.isOpen = true := by simpa using hOpen
  rw [step_busy hNoReset hPort (by simp [hPhase]), sequence_of_preFlush (by exact hPhase) hMoved,
    preFlushStep_eq]

theorem step_of_send {s : State} {f : List Byte} (hPhase : s.pc = .send) (hPort : s.port = none)
    (hNoReset : s.resetIn = false) (hOpen : s.tp.isOpen = true) (hFrame : s.txFrame = some f) :
    step s = .next { s with pc := .receive, rx := RxState.init, tp := s.tp.move.write f,
                            trace := s.trace ++ [.txWrite f] } := by
  have hMoved : ({ s with tp := s.tp.move } : State).tp.isOpen = true := by simpa using hOpen
  rw [step_busy hNoReset hPort (by simp [hPhase]), sequence_of_send (by exact hPhase) hMoved,
    sendStep_eq, State.readTxFrame_of_some (f := f) (by exact hFrame)]

/-- Nothing can leave an output buffer that is empty. -/
theorem Transport.move_tout_of_nil {t : Transport} (hEmpty : t.tout = []) : t.move.tout = [] :=
  List.suffix_nil.mp (hEmpty ▸ t.move_tout_suffix)

/-- Settles O31: PRE_FLUSH and SEND, one step each. -/
theorem flushThenWrite : Obligations.FlushThenWrite := by
  intro s f hPhase hPort hNoReset hOpen hFrame
  have hStillOpen : s.tp.move.flushIn.flushOut.isOpen = true := (Transport.move_isOpen s.tp).trans hOpen
  have hWritten : (s.tp.move.flushIn.flushOut.move.write f).tout = f := by
    rw [Transport.write_eq, Transport.move_tout_of_nil rfl, List.nil_append]
  exact ⟨_, _, step_of_preFlush hPhase hPort hNoReset hOpen,
    step_of_send rfl hPort hNoReset hStillOpen hFrame, rfl, rfl, rfl, rfl, rfl, rfl, hWritten, by simp,
    rfl, rfl, rfl, rfl, rfl⟩

end Sys2Proof.Machine
end

-- ==== What a step writes, and when it stops ====
section
/-! PROOFS. Which registers each busy phase writes, everything the host can do in a step, and what
follows for every step of the machine: the frame of a command, half duplex (20_memory R81), the fixed
configuration (00_scope R16), reset (70_reset R270), and the two stops. -/

namespace Sys2Proof.Machine

/-! ## The registers a busy phase writes -/

theorem validateStep_writes (s : State) :
    validateStep s = { s with pc := (validateStep s).pc, res := (validateStep s).res } := by
  rw [validateStep_eq]
  split <;> rfl

/-- A step of a busy block, as the registers it writes. -/
theorem sequence_writes {s t : State} (hBusy : s.pc ≠ .idle) (hNext : sequence s = .next t) :
    (s.pc = .preFlush ∧ t = { s with pc := .send, tp := s.tp.flushIn.flushOut,
                                     trace := s.trace ++ [.flushIn, .flushOut] })
    ∨ (s.pc = .send ∧ t = { s with pc := .receive, rx := RxState.init, tp := s.tp.write s.readTxFrame,
                                   trace := s.trace ++ [.txWrite s.readTxFrame] })
    ∨ (s.pc = .receive ∧ ∃ a u p r, s.tp.rxEvent = some (a, u)
        ∧ t = { s with pc := p, rx := (rxStep s.cfg.val s.rx a).regs, res := r, tp := u,
                       trace := s.trace ++ [.rxEvent a] })
    ∨ (s.pc = .validate ∧ ∃ p r, t = { s with pc := p, res := r })
    ∨ (s.pc = .dispatch ∧ ∃ r, t = { s with pc := .postFlush, res := r })
    ∨ (s.pc = .postFlush ∧ t = { s with
        pc := .idle, tp := s.tp.flushIn.flushOut, resultPort := some s.readRes,
        trace := s.trace ++ [.flushIn, .flushOut, .result s.readRes] }) := by
  rcases sequence_next_cases hNext with
    ⟨hIdle, -⟩ | ⟨hPhase, -, rfl⟩ | ⟨hPhase, -, rfl⟩ | ⟨hPhase, -, a, u, hRead, rfl⟩ | ⟨hPhase, rfl⟩
      | ⟨hPhase, rfl⟩ | ⟨hPhase, -, rfl⟩
  · exact absurd hIdle hBusy
  · exact .inl ⟨hPhase, preFlushStep_eq s⟩
  · exact .inr (.inl ⟨hPhase, sendStep_eq s⟩)
  · exact .inr (.inr (.inl ⟨hPhase, a, u, _, _, hRead, receiveAnswer_writes ((s.setTp u).log (.rxEvent a)) a⟩))
  · exact .inr (.inr (.inr (.inl ⟨hPhase, _, _, validateStep_writes s⟩)))
  · exact .inr (.inr (.inr (.inr (.inl ⟨hPhase, _, dispatchStep_eq s⟩))))
  · exact .inr (.inr (.inr (.inr (.inr ⟨hPhase, State.complete_eq s⟩))))

/-- A step of the block with a command on its port: taken, refused, or the busy block's own. -/
theorem exec_next_cases {i : Instr} {s t : State} (hNext : exec i s = .next t) :
    (s.pc = .idle ∧ ∃ c, taken i = some c ∧ t = accept c s)
    ∨ (s.pc = .idle ∧ taken i = none ∧ t = refusePower s)
    ∨ (s.pc ≠ .idle ∧ sequence s = .next t) := by
  rw [exec_eq_offer] at hNext
  exact offer_next_cases hNext

/-- The answers of RECEIVE, each with the one register of the receiver that it writes. -/
theorem rxStep_regs_cases (cfg : Config) (r : RxState) (a : Answer) :
    (a = .silence → (rxStep cfg r a).regs = { r with timeoutCnt := r.timeoutCnt + 1 })
    ∧ (∀ b, a = .byte b → r.unsynced = true → b ≠ marker →
        (rxStep cfg r a).regs = { r with discardCnt := r.discardCnt + 1 })
    ∧ (a = .byte marker → r.unsynced = true →
        (rxStep cfg r a).regs = { r with unsynced := false, buf := [marker] })
    ∧ (∀ b, a = .byte b → r.unsynced = false → (rxStep cfg r a).regs = { r with buf := r.buf ++ [b] }) := by
  refine ⟨?_, ?_, ?_, ?_⟩
  · rintro rfl
    exact rxStep_regs_silence cfg r
  · rintro b rfl hUnsynced hNoise
    exact rxStep_regs_noise hUnsynced hNoise
  · rintro rfl hUnsynced
    exact rxStep_regs_marker hUnsynced
  · rintro b rfl hSynced
    exact rxStep_regs_synced b hSynced

/-- Settles O27: the registers each phase writes, phase by phase. -/
theorem commandStepFrame : Obligations.CommandStepFrame := by
  intro i s t hNext
  rcases exec_next_cases hNext with ⟨hIdle, c, -, rfl⟩ | ⟨hIdle, -, rfl⟩ | ⟨hBusy, hSeq⟩
  · simp [accept_eq, hIdle]
  · simp [refusePower_eq, hIdle]
  · rcases sequence_writes hBusy hSeq with
      ⟨hPhase, rfl⟩ | ⟨hPhase, rfl⟩ | ⟨hPhase, a, u, p, r, hRead, rfl⟩ | ⟨hPhase, p, r, rfl⟩
        | ⟨hPhase, r, rfl⟩ | ⟨hPhase, rfl⟩
    · simp [hPhase]
    · simp [hPhase]
    · have hStored : (s.rx.unsynced = true → s.rx.buf = []) → ∀ k, k ≠ s.rx.buf.length →
          memByte (rxStep s.cfg.val s.rx a).regs.buf k = memByte s.rx.buf k :=
        fun hEmpty k hk => memByte_rxStep_regs a hEmpty hk
      obtain ⟨hSilence, hNoise, hMarker, hByte⟩ := rxStep_regs_cases s.cfg.val s.rx a
      refine ⟨⟨rfl, rfl, rfl, rfl⟩, by simp [hPhase], fun _ => ⟨rfl, rfl⟩, by simp [hPhase],
        fun _ _ => rfl, by simp [hPhase], by simp [hPhase], by simp [hPhase], fun _ => hStored, fun _ => ?_⟩
      exact ⟨⟨a, u, hRead, rfl, rfl, hSilence, hNoise, hMarker, hByte⟩, rxStep_regs_keep_sync a⟩
    · simp [hPhase]
    · simp [hPhase]
    · simp [hPhase]

/-! ## Everything the host can do in a step -/

/-- The host's moves: where it stands, what it has been delivered, and the state it leaves
(44_host_lifecycle R216). -/
inductive HostMove (s : State) : State → Prop
  | opens (place : s.host.phase = .opening) : HostMove s (openStep s)
  | starts (place : s.host.phase = .start) : HostMove s (connectStart s)
  | waits (place : s.host.phase.awaiting = true) (noResult : s.resultPort = none) : HostMove s s
  | probed (v : Response) (place : s.host.phase = .awaitProbe) (result : s.resultPort = some (.ok v)) :
      HostMove s { s with host := { s.host with phase := .gapIdentify }, resultPort := none }
  | attemptFails (r : Result) (place : s.host.phase = .awaitProbe ∨ s.host.phase = .awaitIdentity)
      (result : s.resultPort = some r) : HostMove s (attemptFailed (s.setResultPort none))
  | identifies (place : s.host.phase = .gapIdentify) :
      HostMove s { s with host := { s.host with phase := .awaitIdentity }, port := some .getid,
                          resultPort := none, trace := s.trace ++ [.wait s.cfg.val.quiescence] }
  | connects (id : List Byte) (place : s.host.phase = .awaitIdentity)
      (result : s.resultPort = some (.ok (.identity id))) :
      HostMove s (connectDone (s.setResultPort none) id)
  | retries (place : s.host.phase = .gapRetry) :
      HostMove s { s with host := { s.host with phase := .awaitProbe }, port := some .probe,
                          resultPort := none, trace := s.trace ++ [.wait s.cfg.val.quiescence] }
  | polls (place : s.host.phase = .gapPoll) : HostMove s (pollStart s)
  | pollSucceeds (st : Status) (place : s.host.phase = .awaitPoll)
      (result : s.resultPort = some (.ok (.operationalStatus st))) :
      HostMove s (pollSucceeded (s.setResultPort none) st)
  | pollFails (r : Result) (place : s.host.phase = .awaitPoll) (result : s.resultPort = some r) :
      HostMove s (pollFailed (s.setResultPort none))
  | stays (place : s.host.phase = .stopped) : HostMove s s

theorem hostMove_probeResult {s : State} {r : Result} (hPlace : s.host.phase = .awaitProbe)
    (hResult : s.resultPort = some r) : HostMove s (probeResult (s.setResultPort none) r) := by
  cases r with
  | ok v => exact .probed v hPlace hResult
  | fail e => exact .attemptFails _ (.inl hPlace) hResult

theorem hostMove_identityResult {s : State} {r : Result} (hPlace : s.host.phase = .awaitIdentity)
    (hResult : s.resultPort = some r) : HostMove s (identityResult (s.setResultPort none) r) := by
  match r with
  | .ok (.identity id) => exact .connects id hPlace hResult
  | .ok .probeAck | .ok (.operationalStatus _) | .fail _ => exact .attemptFails _ (.inr hPlace) hResult

theorem hostMove_pollResult {s : State} {r : Result} (hPlace : s.host.phase = .awaitPoll)
    (hResult : s.resultPort = some r) : HostMove s (pollResult (s.setResultPort none) r) := by
  match r with
  | .ok (.operationalStatus st) => exact .pollSucceeds st hPlace hResult
  | .ok .probeAck | .ok (.identity _) | .fail _ => exact .pollFails _ hPlace hResult

/-- While its result is not there the host waits, at any of the three places (44_host_lifecycle R200). -/
theorem hostStep_of_awaiting_none {s : State} (hPlace : s.host.phase.awaiting = true)
    (hNone : s.resultPort = none) : hostStep s = s := by
  cases hPhase : s.host.phase with
  | awaitProbe | awaitIdentity | awaitPoll => simp only [hostStep, hPhase, onResult, hNone]
  | opening | start | gapIdentify | gapRetry | gapPoll | stopped =>
    rw [hPhase] at hPlace
    nomatch hPlace

theorem hostMove_of_awaiting_none {s : State} (hPlace : s.host.phase.awaiting = true)
    (hNone : s.resultPort = none) : HostMove s (hostStep s) := by
  rw [hostStep_of_awaiting_none hPlace hNone]
  exact .waits hPlace hNone

theorem hostStep_move (s : State) : HostMove s (hostStep s) := by
  cases hPhase : s.host.phase with
  | opening =>
    have hStep : hostStep s = openStep s := by simp only [hostStep, hPhase]
    exact hStep ▸ .opens hPhase
  | start => exact hostStep_of_start hPhase ▸ .starts hPhase
  | gapIdentify => exact hostStep_of_gapIdentify hPhase ▸ .identifies hPhase
  | gapRetry => exact hostStep_of_gapRetry hPhase ▸ .retries hPhase
  | gapPoll => exact hostStep_of_gapPoll hPhase ▸ .polls hPhase
  | stopped => exact (hostStep_of_stopped hPhase).symm ▸ .stays hPhase
  | awaitProbe =>
    cases hResult : s.resultPort with
    | none => exact hostMove_of_awaiting_none (by rw [hPhase]; rfl) hResult
    | some r => exact hostStep_of_awaitProbe hPhase hResult ▸ hostMove_probeResult hPhase hResult
  | awaitIdentity =>
    cases hResult : s.resultPort with
    | none => exact hostMove_of_awaiting_none (by rw [hPhase]; rfl) hResult
    | some r => exact hostStep_of_awaitIdentity hPhase hResult ▸ hostMove_identityResult hPhase hResult
  | awaitPoll =>
    cases hResult : s.resultPort with
    | none => exact hostMove_of_awaiting_none (by rw [hPhase]; rfl) hResult
    | some r => exact hostStep_of_awaitPoll hPhase hResult ▸ hostMove_pollResult hPhase hResult

end Sys2Proof.Machine
end

-- ==== The actions of a step, the configuration, reset, and the stops ====
section
/-! PROOFS. Who makes which action (20_memory R81, 44_host_lifecycle R203), that no step changes the
configuration (00_scope R16), what reset restores (70_reset R270), and the only two stops of the machine
(42_stream_receiver R176, 70_reset R276). -/

namespace Sys2Proof.Machine

/-! ## Half duplex -/

/-- The actions of a step are those its phase may make (20_memory R81). -/
structure ActionsFit (p : Phase) (acts : List Action) : Prop where
  tx : (∃ a ∈ acts, a.isTx = true) → p = .send
  rx : (∃ a ∈ acts, a.isRx = true) → p = .receive
  flush : (∃ a ∈ acts, a.isFlush = true) → p = .preFlush ∨ p = .postFlush

theorem Action.ofBlock_of_isTx : ∀ {a : Action}, a.isTx = true → a.ofBlock = true
  | .txWrite _, _ => rfl

theorem Action.ofBlock_of_isRx : ∀ {a : Action}, a.isRx = true → a.ofBlock = true
  | .rxEvent _, _ => rfl

theorem Action.ofBlock_of_isFlush : ∀ {a : Action}, a.isFlush = true → a.ofBlock = true
  | .flushIn, _ => rfl
  | .flushOut, _ => rfl

/-- The actions that are not the block's touch neither of the transport's buffers. -/
theorem ActionsFit.of_not_ofBlock {acts : List Action} (p : Phase) (hActs : ∀ a ∈ acts, a.ofBlock = false) :
    ActionsFit p acts where
  tx := fun ⟨a, ha, h⟩ => nomatch (hActs a ha).symm.trans (Action.ofBlock_of_isTx h)
  rx := fun ⟨a, ha, h⟩ => nomatch (hActs a ha).symm.trans (Action.ofBlock_of_isRx h)
  flush := fun ⟨a, ha, h⟩ => nomatch (hActs a ha).symm.trans (Action.ofBlock_of_isFlush h)

theorem sequence_actionsFit {s t : State} (hBusy : s.pc ≠ .idle) (hNext : sequence s = .next t) :
    ∃ acts, t.trace = s.trace ++ acts ∧ ActionsFit s.pc acts := by
  rcases sequence_writes hBusy hNext with
    ⟨hPhase, rfl⟩ | ⟨hPhase, rfl⟩ | ⟨hPhase, a, u, p, r, -, rfl⟩ | ⟨hPhase, p, r, rfl⟩
      | ⟨hPhase, r, rfl⟩ | ⟨hPhase, rfl⟩ <;> rw [hPhase]
  · exact ⟨_, rfl, by constructor <;> simp [Action.isTx, Action.isRx, Action.isFlush]⟩
  · exact ⟨_, rfl, by constructor <;> simp [Action.isTx, Action.isRx, Action.isFlush]⟩
  · exact ⟨_, rfl, by constructor <;> simp [Action.isTx, Action.isRx, Action.isFlush]⟩
  · exact ⟨[], (List.append_nil _).symm, .of_not_ofBlock _ nofun⟩
  · exact ⟨[], (List.append_nil _).symm, .of_not_ofBlock _ nofun⟩
  · exact ⟨_, rfl, by constructor <;> simp [Action.isTx, Action.isRx, Action.isFlush]⟩

/-- A command's step: at IDLE a refusal delivers its result and nothing else is done. -/
theorem exec_actionsFit {i : Instr} {s t : State} (hNext : exec i s = .next t) :
    ∃ acts, t.trace = s.trace ++ acts ∧ ActionsFit s.pc acts := by
  rcases exec_next_cases hNext with ⟨-, c, -, rfl⟩ | ⟨-, -, rfl⟩ | ⟨hBusy, hSeq⟩
  · exact ⟨[], (List.append_nil _).symm, .of_not_ofBlock _ nofun⟩
  · exact ⟨_, rfl, by constructor <;> simp [Action.isTx, Action.isRx, Action.isFlush]⟩
  · exact sequence_actionsFit hBusy hSeq

theorem attemptFailed_trace (s : State) : (attemptFailed s).trace = s.trace := by
  rw [attemptFailed_eq]
  split <;> rfl

/-- The actions of the host's step: none of the block's, and the opening only as `openStep` makes it. -/
structure HostActions (s : State) (acts : List Action) : Prop where
  own : ∀ a ∈ acts, a.ofBlock = false
  opening : (∃ a ∈ acts, a.isOpen = true) →
    s.host.phase = .opening ∧ acts = [.openTransport s.cfg.val.serialPath]

theorem HostActions.nil (s : State) : HostActions s [] := ⟨nofun, nofun⟩

/-- The host opens the transport, waits, and calls back; nothing else (44_host_lifecycle R203). -/
theorem HostMove.actions {s t : State} (hMove : HostMove s t) :
    ∃ acts, t.trace = s.trace ++ acts ∧ HostActions s acts := by
  cases hMove with
  | opens place => exact ⟨[.openTransport s.conf.serialPath], rfl, by simp [Action.ofBlock], fun _ => ⟨place, rfl⟩⟩
  | starts => exact ⟨[], (List.append_nil _).symm, .nil s⟩
  | waits => exact ⟨[], (List.append_nil _).symm, .nil s⟩
  | probed => exact ⟨[], (List.append_nil _).symm, .nil s⟩
  | attemptFails => exact ⟨[], by rw [attemptFailed_trace]; exact (List.append_nil _).symm, .nil s⟩
  | identifies => exact ⟨_, rfl, by simp [Action.ofBlock], by simp [Action.isOpen]⟩
  | connects id => exact ⟨[.onConnected id], rfl, by simp [Action.ofBlock], by simp [Action.isOpen]⟩
  | retries => exact ⟨_, rfl, by simp [Action.ofBlock], by simp [Action.isOpen]⟩
  | polls => exact ⟨[.wait s.conf.pollPeriod], rfl, by simp [Action.ofBlock], by simp [Action.isOpen]⟩
  | pollSucceeds st =>
    rw [pollSucceeded_eq]
    exact ⟨_, rfl, by simp [Action.ofBlock], by simp [Action.isOpen]⟩
  | pollFails =>
    rw [pollFailed_eq]
    exact ⟨_, rfl, by split <;> simp [Action.ofBlock], by split <;> simp [Action.isOpen]⟩
  | stays => exact ⟨[], (List.append_nil _).symm, .nil s⟩

theorem step_actionsFit {s t : State} (hNext : step s = .next t) :
    ∃ acts, t.trace = s.trace ++ acts ∧ ActionsFit s.pc acts := by
  rcases step_next_cases hNext with ⟨-, rfl⟩ | ⟨-, i, -, hExec⟩ | ⟨-, -, hBusy, hSeq⟩ | ⟨-, -, -, rfl⟩
  · exact ⟨[], (List.append_nil _).symm, .of_not_ofBlock _ nofun⟩
  · exact exec_actionsFit (s := s.lineMoves.setPort none) hExec
  · exact sequence_actionsFit (s := s.lineMoves) hBusy hSeq
  · obtain ⟨acts, hTrace, hOwn⟩ := (hostStep_move s.lineMoves).actions
    exact ⟨acts, hTrace, .of_not_ofBlock _ hOwn.own⟩

/-- The host writes no byte of the transport's buffers. -/
theorem hostStep_tin (s : State) : (hostStep s).tp.tin = s.tp.tin := by
  obtain ⟨-, -, -, -, -, -, -, hTp⟩ := hostStep_frame s
  rw [hTp]
  split <;> rfl

/-- In a phase that neither flushes nor reads, the block leaves the input buffer alone. -/
theorem sequence_tin {s t : State} (hBusy : s.pc ≠ .idle) (hNext : sequence s = .next t)
    (hPre : s.pc ≠ .preFlush) (hReceive : s.pc ≠ .receive) (hPost : s.pc ≠ .postFlush) :
    t.tp.tin = s.tp.tin := by
  rcases sequence_writes hBusy hNext with
    ⟨hPhase, -⟩ | ⟨-, rfl⟩ | ⟨hPhase, -⟩ | ⟨-, p, r, rfl⟩ | ⟨-, r, rfl⟩ | ⟨hPhase, -⟩
  · exact absurd hPhase hPre
  · rfl
  · exact absurd hPhase hReceive
  · rfl
  · rfl
  · exact absurd hPhase hPost

theorem step_tin {s t : State} (hNext : step s = .next t) (hNoReset : s.resetIn = false)
    (hPre : s.pc ≠ .preFlush) (hReceive : s.pc ≠ .receive) (hPost : s.pc ≠ .postFlush) :
    t.tp.tin = s.tp.arrive.tin := by
  rw [← State.lineMoves_tin]
  rcases step_next_cases hNext with ⟨hReset, -⟩ | ⟨-, i, -, hExec⟩ | ⟨-, -, hBusy, hSeq⟩ | ⟨-, -, -, rfl⟩
  · simp [hNoReset] at hReset
  · rcases exec_next_cases hExec with ⟨-, c, -, rfl⟩ | ⟨-, -, rfl⟩ | ⟨hBusy, hSeq⟩
    · rfl
    · rfl
    · exact sequence_tin (s := s.lineMoves.setPort none) hBusy hSeq hPre hReceive hPost
  · exact sequence_tin (s := s.lineMoves) hBusy hSeq hPre hReceive hPost
  · exact hostStep_tin s.lineMoves

theorem Transport.arrive_tin_of_script {t : Transport} {bs : List Byte} {rest : List LineEvent}
    (hLine : t.line = .arrive bs :: rest) : t.arrive.tin = t.tin ++ bs := by
  simp only [Transport.arrive, hLine]

/-- Settles O35: the actions fit the phase, and what arrives is all that changes the input buffer. -/
theorem halfDuplex : Obligations.HalfDuplex := by
  intro s t hNext
  obtain ⟨acts, hTrace, hTx, hRx, hFlush⟩ := step_actionsFit hNext
  refine ⟨⟨acts, hTrace, hTx, hRx, hFlush⟩, fun hNoReset hPre hReceive hPost => ?_⟩
  rw [step_tin hNext hNoReset hPre hReceive hPost]
  exact ⟨rfl, s.tp.prefix_arrive_tin, fun bs rest hLine => Transport.arrive_tin_of_script hLine⟩

/-! ## The configuration -/

theorem sequence_keeps {s t : State} (hNext : sequence s = .next t) :
    t.cfg = s.cfg ∧ t.resetIn = s.resetIn ∧ t.cmd = s.cmd ∧ t.txFrame = s.txFrame := by
  by_cases hIdle : s.pc = .idle
  · simp only [sequence, hIdle] at hNext
    cases hNext
    exact ⟨rfl, rfl, rfl, rfl⟩
  · rcases sequence_writes hIdle hNext with
      ⟨-, rfl⟩ | ⟨-, rfl⟩ | ⟨-, a, u, p, r, -, rfl⟩ | ⟨-, p, r, rfl⟩ | ⟨-, r, rfl⟩ | ⟨-, rfl⟩ <;>
      exact ⟨rfl, rfl, rfl, rfl⟩

theorem exec_keeps {i : Instr} {s t : State} (hNext : exec i s = .next t) :
    t.cfg = s.cfg ∧ t.resetIn = s.resetIn := by
  rcases exec_next_cases hNext with ⟨-, c, -, rfl⟩ | ⟨-, -, rfl⟩ | ⟨-, hSeq⟩
  · exact ⟨rfl, rfl⟩
  · exact ⟨rfl, rfl⟩
  · exact ⟨(sequence_keeps hSeq).1, (sequence_keeps hSeq).2.1⟩

/-- No step changes the configuration, and none asserts reset. -/
theorem step_keeps {s t : State} (hNext : step s = .next t) : t.cfg = s.cfg ∧ t.resetIn = false := by
  rcases step_next_cases hNext with ⟨-, rfl⟩ | ⟨hNoReset, i, -, hExec⟩ | ⟨hNoReset, -, -, hSeq⟩
    | ⟨hNoReset, -, -, rfl⟩
  · exact ⟨rfl, rfl⟩
  · obtain ⟨hCfg, hReset⟩ := exec_keeps hExec
    exact ⟨hCfg, hReset.trans hNoReset⟩
  · obtain ⟨hCfg, hReset, -, -⟩ := sequence_keeps hSeq
    exact ⟨hCfg, hReset.trans hNoReset⟩
  · obtain ⟨hCfg, -, -, -, -, -, hReset, -⟩ := hostStep_frame s.lineMoves
    exact ⟨hCfg, hReset.trans hNoReset⟩

/-- Settles O41: every step keeps the configuration, whose type carries its validity, and construction
tests for it. -/
theorem configurationIsFixed : Obligations.ConfigurationIsFixed :=
  ⟨fun _ _ hNext => (step_keeps hNext).1, fun s => s.cfg.property,
    fun _ => ⟨fun hInvalid => dif_neg hInvalid, fun hValid => dif_pos hValid⟩⟩

/-! ## Reset -/

@[simp] theorem State.applyReset_isOpen (s : State) : s.applyReset.tp.isOpen = s.tp.isOpen := by
  simp only [State.applyReset]
  split <;> rfl

/-- Settles O57: the state reset leaves, register by register. -/
theorem resetInputRestores : Obligations.ResetInputRestores := by
  intro s hReset
  refine ⟨_, step_reset hReset, rfl, rfl, rfl, rfl, rfl, rfl, rfl, rfl, rfl, rfl, rfl, rfl, rfl, rfl,
    fun hIdle => ?_, s.lineMoves.applyReset_isOpen.trans s.lineMoves_isOpen⟩
  simp [State.applyReset, State.lineMoves_idle hIdle, hIdle]

/-- Settles O58: the fields of `State.reset`. -/
theorem resetStateValues : Obligations.ResetStateValues :=
  ⟨rfl, rfl, rfl, rfl, rfl, rfl, rfl, rfl, rfl, rfl, rfl⟩

/-! ## The stops -/

/-- The phases that act on the transport. -/
def Phase.actsOnTransport (p : Phase) : Prop := p = .preFlush ∨ p = .send ∨ p = .receive ∨ p = .postFlush

theorem onTransport_eq_fault_iff {s : State} {k : State → Step} {e : Fault} :
    onTransport s k = .fault e ↔ s.tp.isOpen = true ∧ k s = .fault e := by
  unfold Machine.onTransport
  cases s.tp.isOpen <;> simp

theorem onTransport_eq_refused_iff {s : State} {k : State → Step} {e : Refusal} :
    onTransport s k = .refused e ↔
      (s.tp.isOpen = true ∧ k s = .refused e) ∨ (s.tp.isOpen = false ∧ e = .transportNotOpen) := by
  unfold Machine.onTransport
  cases s.tp.isOpen <;> simp [eq_comm]

theorem receiveStep_eq_fault_iff {s : State} {e : Fault} :
    receiveStep s = .fault e ↔ s.tp.answering = false := by
  rw [← Transport.rxEvent_none_iff, receiveStep]
  cases e
  cases s.tp.rxEvent <;> simp

theorem receiveStep_ne_refused (s : State) (e : Refusal) : receiveStep s ≠ .refused e := by
  rw [receiveStep]
  cases s.tp.rxEvent <;> simp

theorem sequence_eq_fault_iff {s : State} {e : Fault} :
    sequence s = .fault e ↔ s.pc = .receive ∧ s.tp.isOpen = true ∧ s.tp.answering = false := by
  cases hPhase : s.pc <;>
    simp [sequence, hPhase, onTransport_eq_fault_iff, receiveStep_eq_fault_iff]

theorem sequence_eq_refused_iff {s : State} {e : Refusal} :
    sequence s = .refused e ↔ e = .transportNotOpen ∧ s.tp.isOpen = false ∧ s.pc.actsOnTransport := by
  cases hPhase : s.pc <;>
    simp [sequence, hPhase, onTransport_eq_refused_iff, receiveStep_ne_refused, Phase.actsOnTransport, and_comm]

/-- Reset and an idle block always go on. -/
theorem step_goes_on {s : State} (h : s.resetIn = true ∨ s.pc = .idle) : ∃ t, step s = .next t := by
  cases hReset : s.resetIn with
  | true => exact ⟨_, step_reset hReset⟩
  | false =>
    have hIdle : s.pc = .idle := by simpa [hReset] using h
    cases hPort : s.port with
    | none => exact ⟨_, step_host hReset hPort hIdle⟩
    | some i =>
      rw [step_command hReset hPort, exec_eq_offer]
      cases taken i with
      | some c => exact ⟨_, offer_idle_some hIdle⟩
      | none => exact ⟨_, offer_idle_none hIdle⟩

theorem lineMoves_answering_eq_false (s : State) :
    s.lineMoves.tp.answering = false ↔ s.tp.answering = false ∨ ∃ rest, s.tp.line = .stopped :: rest := by
  rw [← Transport.arrive_answering_eq_false, State.lineMoves_eq]
  split <;> rfl

/-- Settles O43: only a busy block without reset can stop, and then the sequencer's stops are the two. -/
theorem stopsOnlyOnBrokenTransport : Obligations.StopsOnlyOnBrokenTransport := by
  refine ⟨fun s e => ?_, fun s e => ?_⟩
  · by_cases hGoesOn : s.resetIn = true ∨ s.pc = .idle
    · obtain ⟨t, hNext⟩ := step_goes_on hGoesOn
      rcases hGoesOn with h | h <;> simp [hNext, h]
    · obtain ⟨hNoReset, hBusy⟩ : s.resetIn = false ∧ s.pc ≠ .idle := by simpa using hGoesOn
      rw [step_of_busy hNoReset hBusy, sequence_eq_fault_iff, ← lineMoves_answering_eq_false]
      simp [hNoReset]
  · by_cases hGoesOn : s.resetIn = true ∨ s.pc = .idle
    · obtain ⟨t, hNext⟩ := step_goes_on hGoesOn
      rcases hGoesOn with h | h <;> simp [hNext, h]
    · obtain ⟨hNoReset, hBusy⟩ : s.resetIn = false ∧ s.pc ≠ .idle := by simpa using hGoesOn
      rw [step_of_busy hNoReset hBusy, sequence_eq_refused_iff]
      simp [hNoReset, Phase.actsOnTransport]

end Sys2Proof.Machine
end

-- ==== The sequencer's part of the invariant ====
section
/-! PROOFS. The block's steps keep the receiver's bounds and the sequencer's part of the invariant of
Safety.lean, phase by phase; the results that can arise are those of 43_transaction_driver R193. -/

namespace Sys2Proof.Machine

/-! ## Results a transaction can end with -/

/-- RECEIVE fails in three ways, and all are allowed. -/
theorem resultAllowed_of_rxStep_fail {cfg : Config} {r r' : RxState} {a : Answer} {e : Failure} (c : Command)
    (h : rxStep cfg r a = .done r' (.fail e)) : resultAllowed cfg c (.fail e) = true := by
  rcases rxStep_eq_done h with
    ⟨-, -, -, ho⟩ | ⟨_, -, -, -, -, -, ho⟩ | ⟨_, -, -, -, -, ho⟩ | ⟨_, -, -, -, -, -, ho⟩ <;> cases ho
  · exact decide_eq_true rfl
  · rfl
  · rfl

/-- DECODE never fails on the footer of a frame RECEIVE returned, as the footer is what ended it. -/
theorem resultAllowed_of_decodeFrame_fail {cfg : Config} {raw : List Byte} {e : Failure} (c : Command)
    (hRaw : RawFrame cfg raw) (h : decodeFrame raw = .fail e) : resultAllowed cfg c (.fail e) = true := by
  have hFooter : memRead raw (raw.length - 2) 2 = footerBytes :=
    (last2_eq_footer_iff (Nat.sub_add_cancel hRaw.atLeastTwo)).mp hRaw.ends
  rcases decodeFrame_cases raw with
    ⟨-, e'⟩ | ⟨-, -, e'⟩ | ⟨-, -, hBad, -⟩ | ⟨-, -, -, -, e'⟩ | ⟨-, -, -, -, e'⟩
  · rw [e'] at h; cases h; rfl
  · rw [e'] at h; cases h; rfl
  · exact absurd hFooter hBad
  · rw [e'] at h; cases h; rfl
  · rw [e'] at h; cases h

/-- The decoder's own results are bounded by the frame's length and by the byte (10_state R29). -/
theorem resultAllowed_decodeResp {cfg : Config} {raw : List Byte} (c : Command) (hRaw : RawFrame cfg raw) :
    resultAllowed cfg c (decodeResp cfg c (framePayload raw)) = true := by
  rcases decodeResp_cases cfg c (framePayload raw) with
    ⟨rfl, h⟩ | ⟨rfl, h⟩ | ⟨q, rfl, -, h⟩ | ⟨q, rfl, -, h⟩ <;> rw [h]
  · rfl
  · have hLength : (identityText cfg (framePayload raw)).length ≤ cfg.maxFrameLen - 7 := by
      have hText := identityText_length_le cfg (framePayload raw)
      have hMax := hRaw.atMostMax
      rw [framePayload_length] at hText
      omega
    simp only [resultAllowed, decide_eq_true hLength, identityText_printable, decide_true, Bool.and_self]
  · rfl
  · simp [resultAllowed, statusOf, tensOf_le]

/-! ## The sequencer's part -/

/-- The sequencer's part speaks of the block's registers alone. -/
theorem State.SequencerOk.congr {s t : State} (h : s.SequencerOk) (hCfg : t.cfg = s.cfg) (hPc : t.pc = s.pc)
    (hCmd : t.cmd = s.cmd) (hFrame : t.txFrame = s.txFrame) (hRx : t.rx = s.rx) (hRes : t.res = s.res) :
    t.SequencerOk := by
  obtain ⟨hIdle, hLatched, hReceive, hReceived, hValid, hFinished⟩ := h
  have hLatch : t.Latched ↔ s.Latched := by simp only [State.Latched, hCfg, hCmd, hFrame]
  have hFinish : t.Finished ↔ s.Finished := by simp only [State.Finished, hCfg, hCmd, hRes]
  constructor <;> simp only [hCfg, hPc, hRx, hLatch, hFinish]
  case idle =>
    exact fun h => (hIdle h).imp
      (fun ⟨hC, hF, hR⟩ => ⟨hCmd.trans hC, hFrame.trans hF, hRes.trans hR⟩) id
  case latched => exact hLatched
  case receive => exact hReceive
  case received => exact hReceived
  case valid => exact hValid
  case finished => exact hFinished

theorem sequencerOk_accept (c : Command) (s : State) : (accept c s).SequencerOk where
  idle h := nomatch h
  latched _ := ⟨c, rfl, rfl⟩
  receive h := nomatch h
  received h := by rcases h with h | h <;> nomatch h
  valid h := nomatch h
  finished h := nomatch h

/-- A failure that ends a transaction early goes to POST_FLUSH with a result that is allowed. -/
theorem sequencerOk_of_postFlush {t : State} {c : Command} {r : Result} (hPhase : t.pc = .postFlush)
    (hLatched : t.Latched) (hCmd : t.cmd = some c) (hRes : t.res = some r)
    (hAllowed : resultAllowed t.cfg.val c r = true) : t.SequencerOk where
  idle h := nomatch hPhase.symm.trans h
  latched _ := hLatched
  receive h := nomatch hPhase.symm.trans h
  received h := by rcases h with h | h <;> nomatch hPhase.symm.trans h
  valid h := nomatch hPhase.symm.trans h
  finished _ := ⟨c, r, hCmd, hRes, hAllowed⟩

theorem bounded_and_sequencerOk_receiveAnswer {s : State} {a : Answer} {c : Command} (hPhase : s.pc = .receive)
    (hCmd : s.cmd = some c) (hFrame : s.txFrame = some (commandFrame s.cfg.val c))
    (hLive : s.rx.Live s.cfg.val) :
    (receiveAnswer s a).rx.Bounded s.cfg.val ∧ (receiveAnswer s a).SequencerOk := by
  have hLatched : s.Latched := ⟨c, hCmd, hFrame⟩
  cases hTurn : rxStep s.cfg.val s.rx a with
  | more r =>
    have hLive' := hLive.more (one_le_maxFrameLen s.cfg) hTurn
    rw [receiveAnswer_of_more hTurn]
    exact ⟨hLive'.bounded, {
      idle := fun h => nomatch hPhase.symm.trans h
      latched := fun _ => hLatched
      receive := fun _ => hLive'
      received := fun h => by rcases h with h | h <;> nomatch hPhase.symm.trans h
      valid := fun h => nomatch hPhase.symm.trans h
      finished := fun h => nomatch hPhase.symm.trans h }⟩
  | done r o =>
    have hBounded := hLive.bounded_of_done hTurn
    cases o with
    | ok raw =>
      obtain ⟨rfl, hRaw⟩ := hLive.rawFrame_of_done hTurn
      rw [receiveAnswer_of_ok hTurn]
      exact ⟨hBounded, {
        idle := nofun
        latched := fun _ => hLatched
        receive := nofun
        received := fun _ => hRaw
        valid := nofun
        finished := nofun }⟩
    | fail e =>
      rw [receiveAnswer_of_fail hTurn]
      exact ⟨hBounded, sequencerOk_of_postFlush rfl hLatched hCmd rfl (resultAllowed_of_rxStep_fail c hTurn)⟩

theorem sequencerOk_validateStep {s : State} {c : Command} (hCmd : s.cmd = some c)
    (hFrame : s.txFrame = some (commandFrame s.cfg.val c)) (hRaw : RawFrame s.cfg.val s.rx.buf) :
    (validateStep s).SequencerOk := by
  have hLatched : s.Latched := ⟨c, hCmd, hFrame⟩
  cases hDecoded : decodeFrame s.rx.buf with
  | ok f =>
    rw [validateStep_of_ok hDecoded]
    exact {
      idle := nofun
      latched := fun _ => hLatched
      receive := nofun
      received := fun _ => hRaw
      valid := fun _ => ⟨_, hDecoded.trans (congrArg _ (decodeFrame_ok_payload hDecoded))⟩
      finished := nofun }
  | fail e =>
    rw [validateStep_of_fail hDecoded]
    exact sequencerOk_of_postFlush rfl hLatched hCmd rfl (resultAllowed_of_decodeFrame_fail c hRaw hDecoded)

/-- The block's busy steps keep the receiver's bounds and the sequencer's part. -/
theorem bounded_and_sequencerOk_sequence {s t : State} (hBounded : s.rx.Bounded s.cfg.val)
    (hOk : s.SequencerOk) (hBusy : s.pc ≠ .idle) (hNext : sequence s = .next t) :
    t.rx.Bounded s.cfg.val ∧ t.SequencerOk := by
  have hLatched := hOk.latched hBusy
  have ⟨c, hCmd, hFrame⟩ := hLatched
  rcases sequence_next_cases hNext with
    ⟨hIdle, -⟩ | ⟨hPhase, -, rfl⟩ | ⟨hPhase, -, rfl⟩ | ⟨hPhase, -, a, u, hRead, rfl⟩ | ⟨hPhase, rfl⟩
      | ⟨hPhase, rfl⟩ | ⟨hPhase, -, rfl⟩
  · exact absurd hIdle hBusy
  · rw [preFlushStep_eq]
    exact ⟨hBounded, ⟨nofun, fun _ => hLatched, nofun, by simp, nofun, nofun⟩⟩
  · rw [sendStep_eq]
    have hLive := RxState.Live.of_init s.cfg
    exact ⟨hLive.bounded, ⟨nofun, fun _ => hLatched, fun _ => hLive, by simp, nofun, nofun⟩⟩
  · exact bounded_and_sequencerOk_receiveAnswer (s := (s.setTp u).log (.rxEvent a)) hPhase hCmd hFrame
      (hOk.receive hPhase)
  · refine ⟨?_, sequencerOk_validateStep hCmd hFrame (hOk.received (.inl hPhase))⟩
    rw [validateStep_writes]
    exact hBounded
  · rw [dispatchStep_eq, State.readCmd_of_some hCmd]
    exact ⟨hBounded, sequencerOk_of_postFlush rfl hLatched hCmd rfl
      (resultAllowed_decodeResp c (hOk.received (.inr hPhase)))⟩
  · have hFinished := hOk.finished hPhase
    rw [State.complete_eq]
    exact ⟨hBounded, ⟨fun _ => .inr ⟨hLatched, hFinished⟩, by simp, nofun, by simp, nofun, nofun⟩⟩

theorem bounded_and_sequencerOk_exec {i : Instr} {s t : State} (hBounded : s.rx.Bounded s.cfg.val)
    (hOk : s.SequencerOk) (hNext : exec i s = .next t) : t.rx.Bounded s.cfg.val ∧ t.SequencerOk := by
  rcases exec_next_cases hNext with ⟨-, c, -, rfl⟩ | ⟨-, -, rfl⟩ | ⟨hBusy, hSeq⟩
  · exact ⟨hBounded, sequencerOk_accept c s⟩
  · exact ⟨hBounded, hOk.congr rfl rfl rfl rfl rfl rfl⟩
  · exact bounded_and_sequencerOk_sequence hBounded hOk hBusy hSeq

end Sys2Proof.Machine
end

-- ==== The lifecycle's part, and the invariant ====
section
/-! PROOFS. The host's moves keep the lifecycle's part of the invariant, and the block's steps leave it as
it is; so reset meets the invariant and every step keeps it. What a transaction delivers
(43_transaction_driver R193) follows from it. -/

namespace Sys2Proof.Machine

/-! ## The lifecycle's part -/

/-- A step that changes neither the connection state nor the attempt count, and the streak only while
connected, keeps the lifecycle's part, if it awaits and stays open as it must. -/
theorem State.HostOk.advance {s t : State} (h : s.HostOk) (hCfg : t.cfg = s.cfg)
    (hConn : t.host.connState = s.host.connState)
    (hPlace : t.host.phase.connState = s.host.phase.connState)
    (hCount : t.host.attemptCount = s.host.attemptCount)
    (hStreak : t.host.failureStreak = s.host.failureStreak ∨ s.host.phase.connState = .connected)
    (hAwaits : t.host.phase.awaiting = true →
      t.port.isSome = true ∨ t.pc ≠ .idle ∨ t.resultPort.isSome = true)
    (hOpened : t.host.phase ≠ .opening → t.tp.isOpen = true) : t.HostOk := by
  obtain ⟨place, connecting, cantConnect, noAttempt, noStreak, -, -⟩ := h
  refine ⟨?_, ?_, ?_, ?_, ?_, hAwaits, hOpened⟩
  · rw [hConn, hPlace, place]
  · rwa [hPlace, hCount, hCfg]
  · rwa [hPlace, hCount, hCfg]
  · rwa [hPlace, hCount]
  · rw [hPlace]
    intro hNot
    exact (hStreak.resolve_right hNot).trans (noStreak hNot)

/-- Past its opening the host finds the transport open. -/
theorem State.HostOk.isOpen_of_phase {s : State} {p : HostPhase} (h : s.HostOk) (hPlace : s.host.phase = p)
    (hPast : p ≠ .opening) : s.tp.isOpen = true :=
  h.opened (hPlace ▸ hPast)

@[simp] theorem HostState.samplePower_attemptCount (h : HostState) :
    h.samplePower.attemptCount = h.attemptCount := by
  unfold HostState.samplePower
  split <;> rfl

@[simp] theorem HostState.samplePower_failureStreak (h : HostState) :
    h.samplePower.failureStreak = h.failureStreak := by
  unfold HostState.samplePower
  split <;> rfl

theorem hostOk_connectStart {s : State} (h : s.HostOk) (hPlace : s.host.phase = .start) :
    (connectStart s).HostOk where
  place := rfl
  connecting _ := Nat.eq_zero_or_pos _
  cantConnect h := nomatch h
  noAttempt _ := rfl
  noStreak _ := h.noStreak (by simp [hPlace, HostPhase.connState])
  awaits _ := .inl rfl
  opened _ := h.isOpen_of_phase hPlace nofun

theorem hostOk_connectDone {s : State} (r : Option Result) (id : List Byte) (h : s.HostOk)
    (hPlace : s.host.phase = .awaitIdentity) : (connectDone (s.setResultPort r) id).HostOk where
  place := rfl
  connecting h := nomatch h
  cantConnect h := nomatch h
  noAttempt _ := rfl
  noStreak h := absurd rfl h
  awaits h := nomatch h
  opened _ := h.isOpen_of_phase hPlace nofun

theorem capReached_iff (cfg : Config) (n : Nat) :
    capReached cfg n = true ↔ cfg.attemptCap ≠ 0 ∧ n = cfg.attemptCap := by
  rw [capReached, decide_eq_true_iff]

/-- A failed attempt stops at the cap, and below it leaves the count below it. -/
theorem hostOk_attemptFailed {s : State} (r : Option Result) (h : s.HostOk)
    (hConn : s.host.phase.connState = .connecting) : (attemptFailed (s.setResultPort r)).HostOk := by
  have hOpen : s.tp.isOpen = true := h.opened fun hPlace => by simp [hPlace, HostPhase.connState] at hConn
  have hStreak : s.host.failureStreak = 0 := h.noStreak (by simp [hConn])
  rw [attemptFailed_eq]
  split
  next hCap =>
    obtain ⟨hSet, hReached⟩ := (capReached_iff _ _).mp hCap
    exact {
      place := rfl
      connecting := nofun
      cantConnect := fun _ => ⟨hSet, hReached⟩
      noAttempt := by simp [HostPhase.connState]
      noStreak := fun _ => hStreak
      awaits := nofun
      opened := fun _ => hOpen }
  next hCap =>
    have hBelow : s.cfg.val.attemptCap = 0 ∨ s.host.attemptCount + 1 < s.cfg.val.attemptCap := by
      have hOld := h.connecting hConn
      have hNot : ¬ (s.cfg.val.attemptCap ≠ 0 ∧ s.host.attemptCount + 1 = s.cfg.val.attemptCap) :=
        mt (capReached_iff _ _).mpr hCap
      omega
    exact {
      place := h.place.trans hConn
      connecting := fun _ => hBelow
      cantConnect := nofun
      noAttempt := by simp [HostPhase.connState]
      noStreak := fun _ => hStreak
      awaits := nofun
      opened := fun _ => hOpen }

/-- The host's moves keep the lifecycle's part. -/
theorem HostMove.hostOk {s t : State} (hMove : HostMove s t) (h : s.HostOk) : t.HostOk := by
  cases hMove with
  | opens place => exact h.advance rfl rfl (by rw [place]; rfl) rfl (.inl rfl) nofun fun _ => rfl
  | starts place => exact hostOk_connectStart h place
  | waits => exact h
  | probed v place =>
    exact h.advance rfl rfl (by rw [place]; rfl) rfl (.inl rfl) nofun
      fun _ => h.isOpen_of_phase place nofun
  | attemptFails r place =>
    exact hostOk_attemptFailed none h (by rcases place with place | place <;> rw [place] <;> rfl)
  | identifies place =>
    exact h.advance rfl rfl (by rw [place]; rfl) rfl (.inl rfl) (fun _ => .inl rfl)
      fun _ => h.isOpen_of_phase place nofun
  | connects id place => exact hostOk_connectDone none id h place
  | retries place =>
    exact h.advance rfl rfl (by rw [place]; rfl) rfl (.inl rfl) (fun _ => .inl rfl)
      fun _ => h.isOpen_of_phase place nofun
  | polls place =>
    exact h.advance rfl (HostState.samplePower_connState _) (by rw [place]; rfl)
      (HostState.samplePower_attemptCount _) (.inl (HostState.samplePower_failureStreak _))
      (fun _ => .inl rfl) fun _ => h.isOpen_of_phase place nofun
  | pollSucceeds st place =>
    rw [pollSucceeded_eq]
    exact h.advance rfl rfl (by rw [place]; rfl) rfl (.inr (by rw [place]; rfl)) nofun
      fun _ => h.isOpen_of_phase place nofun
  | pollFails r place =>
    rw [pollFailed_eq]
    exact h.advance rfl rfl (by rw [place]; rfl) rfl (.inr (by rw [place]; rfl)) nofun
      fun _ => h.isOpen_of_phase place nofun
  | stays => exact h

/-- A step of the block keeps the lifecycle's part: a transaction in progress goes on or delivers. -/
theorem State.HostOk.of_block {s t : State} (h : s.HostOk) (hCfg : t.cfg = s.cfg) (hHost : t.host = s.host)
    (hOpen : t.tp.isOpen = s.tp.isOpen) (hProgress : t.pc ≠ .idle ∨ t.resultPort.isSome = true) :
    t.HostOk :=
  h.advance hCfg (by rw [hHost]) (by rw [hHost]) (by rw [hHost]) (.inl (by rw [hHost]))
    (fun _ => .inr hProgress) (fun hPast => by rw [hOpen]; exact h.opened (by rwa [hHost] at hPast))

theorem sequence_isOpen {s t : State} (hNext : sequence s = .next t) : t.tp.isOpen = s.tp.isOpen := by
  by_cases hIdle : s.pc = .idle
  · simp only [sequence, hIdle] at hNext
    cases hNext
    rfl
  · rcases sequence_writes hIdle hNext with
      ⟨-, rfl⟩ | ⟨-, rfl⟩ | ⟨-, a, u, p, r, hRead, rfl⟩ | ⟨-, p, r, rfl⟩ | ⟨-, r, rfl⟩ | ⟨-, rfl⟩
    case inr.inr.inl => exact Transport.rxEvent_isOpen hRead
    all_goals rfl

theorem exec_isOpen {i : Instr} {s t : State} (hNext : exec i s = .next t) : t.tp.isOpen = s.tp.isOpen := by
  rcases exec_next_cases hNext with ⟨-, c, -, rfl⟩ | ⟨-, -, rfl⟩ | ⟨-, hSeq⟩
  · rfl
  · rfl
  · exact sequence_isOpen hSeq

/-- A busy block stays busy until it delivers (43_transaction_driver R190). -/
theorem sequence_progress {s t : State} (hBusy : s.pc ≠ .idle) (hNext : sequence s = .next t) :
    t.pc ≠ .idle ∨ t.resultPort.isSome = true := by
  by_cases hLast : s.pc = .postFlush
  · right
    rcases sequence_writes hBusy hNext with
      ⟨hPhase, -⟩ | ⟨hPhase, -⟩ | ⟨hPhase, -⟩ | ⟨hPhase, -⟩ | ⟨hPhase, -⟩ | ⟨-, rfl⟩
    case inr.inr.inr.inr.inr => rfl
    all_goals exact nomatch hLast.symm.trans hPhase
  · left
    rcases phaseTransitions s t hBusy hNext with
      ⟨-, h⟩ | ⟨-, h⟩ | ⟨-, a, u, -, ⟨h, -⟩ | ⟨h, -⟩ | ⟨h, -⟩⟩ | ⟨-, ⟨h, -⟩ | ⟨h, -⟩⟩ | ⟨-, h, -⟩ | ⟨hPhase, -⟩
    case inr.inr.inr.inr.inr => exact absurd hPhase hLast
    all_goals simp [h]

theorem exec_progress {i : Instr} {s t : State} (hNext : exec i s = .next t) :
    t.pc ≠ .idle ∨ t.resultPort.isSome = true := by
  rcases exec_next_cases hNext with ⟨-, c, -, rfl⟩ | ⟨-, -, rfl⟩ | ⟨hBusy, hSeq⟩
  · exact .inl nofun
  · exact .inr rfl
  · exact sequence_progress hBusy hSeq

/-- After reset the host stands at its entry, or at its opening if the transport is not open. -/
theorem applyReset_phase (s : State) :
    s.applyReset.host.phase = if s.tp.isOpen then .start else .opening := rfl

theorem hostOk_applyReset (s : State) : s.applyReset.HostOk := by
  have hPlace : s.applyReset.host.phase.connState = .disconnected
      ∧ s.applyReset.host.phase.awaiting = false := by
    rw [applyReset_phase]
    split <;> exact ⟨rfl, rfl⟩
  refine ⟨?_, ?_, ?_, fun _ => rfl, fun _ => rfl, ?_, fun hPast => ?_⟩
  · rw [hPlace.1]
    rfl
  · simp [hPlace.1]
  · simp [hPlace.1]
  · simp [hPlace.2]
  · rw [applyReset_phase] at hPast
    rw [State.applyReset_isOpen]
    by_contra hClosed
    simp [hClosed] at hPast

/-! ## Reset meets the invariant, and every step keeps it -/

theorem bounded_init (cfg : ValidConfig) : RxState.init.Bounded cfg.val := (RxState.Live.of_init cfg).bounded

/-- The block idle with no value in its registers. -/
theorem sequencerOk_of_untouched {s : State} (hIdle : s.pc = .idle) (hEmpty : s.Untouched) :
    s.SequencerOk := by
  constructor <;> simp [hIdle, hEmpty]

/-- Settles O40: the values of reset, which spend no budget and stand at the lifecycle's entry. -/
theorem resetMeetsInv : Obligations.ResetMeetsInv where
  bounded := bounded_init _
  sequencer := sequencerOk_of_untouched rfl ⟨rfl, rfl, rfl⟩
  host := ⟨rfl, nofun, nofun, fun _ => rfl, fun _ => rfl, nofun, fun _ => rfl⟩

theorem State.HostOk.lineMoves {s : State} (h : s.HostOk) : s.lineMoves.HostOk :=
  h.advance rfl rfl rfl rfl (.inl rfl) h.awaits (fun hPast => by simpa using h.opened hPast)

theorem State.Inv.applyReset (s : State) : s.applyReset.Inv where
  bounded := bounded_init _
  sequencer := sequencerOk_of_untouched rfl ⟨rfl, rfl, rfl⟩
  host := hostOk_applyReset s

theorem State.Inv.exec {i : Instr} {s t : State} (h : s.Inv)
    (hNext : exec i (s.lineMoves.setPort none) = .next t) : t.Inv := by
  have hOk : (s.lineMoves.setPort none).SequencerOk := h.sequencer.congr rfl rfl rfl rfl rfl rfl
  have hCfg := (exec_keeps hNext).1
  obtain ⟨hBounded, hOk'⟩ := bounded_and_sequencerOk_exec (s := s.lineMoves.setPort none) h.bounded hOk hNext
  exact ⟨hCfg ▸ hBounded, hOk', h.host.of_block hCfg (exec_frame hNext).host
    ((exec_isOpen hNext).trans s.lineMoves_isOpen) (exec_progress hNext)⟩

theorem State.Inv.sequence {s t : State} (h : s.Inv) (hBusy : s.pc ≠ .idle)
    (hNext : sequence s.lineMoves = .next t) : t.Inv := by
  have hOk : s.lineMoves.SequencerOk := h.sequencer.congr rfl rfl rfl rfl rfl rfl
  have hCfg := (sequence_keeps hNext).1
  obtain ⟨hBounded, hOk'⟩ := bounded_and_sequencerOk_sequence (s := s.lineMoves) h.bounded hOk hBusy hNext
  exact ⟨hCfg ▸ hBounded, hOk', h.host.of_block hCfg (sequence_frame hNext).host
    ((sequence_isOpen hNext).trans s.lineMoves_isOpen) (sequence_progress (s := s.lineMoves) hBusy hNext)⟩

theorem State.Inv.hostStep {s : State} (h : s.Inv) : (hostStep s.lineMoves).Inv := by
  obtain ⟨hCfg, hPc, hCmd, hFrame, hRx, hRes, -, -⟩ := hostStep_frame s.lineMoves
  refine ⟨?_, h.sequencer.congr hCfg hPc hCmd hFrame hRx hRes,
    (hostStep_move s.lineMoves).hostOk h.host.lineMoves⟩
  rw [hCfg, hRx]
  exact h.bounded

/-- Settles O39: reset restores the invariant, the block keeps its own part and the host's waits, and the
host keeps the lifecycle's part. -/
theorem everyStepKeepsInv : Obligations.EveryStepKeepsInv := by
  intro s t hInv hNext
  rcases step_next_cases hNext with ⟨-, rfl⟩ | ⟨-, i, -, hExec⟩ | ⟨-, -, hBusy, hSeq⟩ | ⟨-, -, -, rfl⟩
  · exact .applyReset _
  · exact hInv.exec hExec
  · exact hInv.sequence hBusy hSeq
  · exact hInv.hostStep

/-- Settles O38: POST_FLUSH delivers the result register, which the invariant holds to the latched
command. -/
theorem deliveredResultIsAllowed : Obligations.DeliveredResultIsAllowed := by
  intro s t hInv hNoReset hPhase hNext
  obtain ⟨c, r, hCmd, hRes, hAllowed⟩ := hInv.sequencer.finished hPhase
  have hBusy : s.pc ≠ .idle := by simp [hPhase]
  rw [step_of_busy hNoReset hBusy] at hNext
  rcases sequence_writes (s := s.lineMoves.setPort none) hBusy hNext with
    ⟨h, -⟩ | ⟨h, -⟩ | ⟨h, -⟩ | ⟨h, -⟩ | ⟨h, -⟩ | ⟨-, rfl⟩
  case inr.inr.inr.inr.inr =>
    refine ⟨c, r, hCmd, ?_, hRes, hAllowed, ?_⟩
    · exact congrArg some (State.readRes_of_some (s := s.lineMoves.setPort none) hRes)
    · rintro rfl
      nomatch hAllowed
  all_goals exact nomatch hPhase.symm.trans h

end Sys2Proof.Machine
end

-- ==== The host's opening, its attempts and its polls ====
section
/-! PROOFS. The host's step at its remaining places (44_host_lifecycle R206, R210, R211), the wait before
every command it offers (R215), the one call of open (60_exceptions R255, 70_reset R276), and the
failure streak of consecutive polls (R213). -/

namespace Sys2Proof.Machine

/-! ## Attempts and polls -/

theorem step_of_gapRetry {s : State} (hRest : s.AtRest) (hPhase : s.host.phase = .gapRetry) :
    step s = .next { s.lineMoves with
      host := { s.host with phase := .awaitProbe }, port := some .probe, resultPort := none,
      trace := s.trace ++ [.wait s.cfg.val.quiescence] } := by
  rw [step_of_atRest hRest, hostStep_of_gapRetry (s := s.lineMoves) hPhase]
  rfl

/-- A failed transaction of the connect sequence is a failed attempt, whichever it was (R206). -/
theorem step_of_attempt_fail {s : State} {e : Failure} (hRest : s.AtRest)
    (hResult : s.resultPort = some (.fail e))
    (hPhase : s.host.phase = .awaitProbe ∨ s.host.phase = .awaitIdentity) :
    step s = .next (attemptFailed (s.lineMoves.setResultPort none)) := by
  rw [step_of_atRest hRest]
  rcases hPhase with hProbe | hIdentity
  · rw [hostStep_of_awaitProbe (s := s.lineMoves) hProbe hResult]
    rfl
  · rw [hostStep_of_awaitIdentity (s := s.lineMoves) hIdentity hResult]
    rfl

theorem attemptFailed_of_cap {s : State} (hCap : s.cfg.val.attemptCap ≠ 0)
    (hReached : s.host.attemptCount + 1 = s.cfg.val.attemptCap) :
    attemptFailed s = { s with host := { s.host with
      attemptCount := s.host.attemptCount + 1, connState := .cantConnect, phase := .stopped } } := by
  rw [attemptFailed_eq, if_pos ((capReached_iff _ _).mpr ⟨hCap, hReached⟩)]

theorem attemptFailed_of_below {s : State}
    (hBelow : s.cfg.val.attemptCap = 0 ∨ s.host.attemptCount + 1 ≠ s.cfg.val.attemptCap) :
    attemptFailed s = { s with host := { s.host with
      attemptCount := s.host.attemptCount + 1, phase := .gapRetry } } := by
  have hNot : ¬ capReached s.conf (s.host.attemptCount + 1) = true := by
    rw [capReached_iff, State.conf_eq]
    tauto
  rw [attemptFailed_eq, if_neg hNot]

/-- Settles O45: the failed attempt at the cap, and below it with the next offer behind its wait. -/
theorem failedAttemptCountsOnce : Obligations.FailedAttemptCountsOnce := by
  intro s e hRest hResult hPhase
  have hFailed := step_of_attempt_fail hRest hResult hPhase
  constructor
  · intro hCap hReached
    rw [hFailed, attemptFailed_of_cap (s := s.lineMoves.setResultPort none) hCap hReached]
    rfl
  · intro hBelow
    rw [attemptFailed_of_below (s := s.lineMoves.setResultPort none) hBelow] at hFailed
    exact ⟨_, hFailed, step_of_gapRetry ⟨hRest.idle, hRest.noCommand, hRest.noReset⟩ rfl⟩

/-- Settles O50: the host's step is `pollStart`, and the sample is the script's next value or a free
one. -/
theorem pollOffersCurrentPower : Obligations.PollOffersCurrentPower := by
  intro s hRest hPhase
  refine ⟨?_, fun p rest hPowers => ?_, fun hPowers => ?_⟩
  · rw [step_of_atRest hRest, hostStep_of_gapPoll (s := s.lineMoves) hPhase]
    rfl
  · simp only [HostState.samplePower, hPowers]
  · simp only [HostState.samplePower, hPowers]

/-- Settles O51: the host's step on a status is `pollSucceeded`. -/
theorem successfulPollReports : Obligations.SuccessfulPollReports := by
  intro s st hRest hPhase hResult
  rw [step_of_atRest hRest, hostStep_of_awaitPoll (s := s.lineMoves) hPhase hResult]
  exact congrArg Host.Outcome.next (pollSucceeded_eq _ st)

/-! ## The wait before an offer -/

theorem attemptFailed_port (s : State) : (attemptFailed s).port = s.port := (attemptFailed_frame s).2.1

/-- A host that leaves a command on an empty port is at its entry, or has just waited. -/
theorem HostMove.wait_of_port {s t : State} {i : Instr} (hMove : HostMove s t) (hEmpty : s.port = none)
    (hOffer : t.port = some i) : s.host.phase = .start ∨
      ∃ d, (d = s.cfg.val.quiescence ∨ d = s.cfg.val.pollPeriod) ∧ t.trace = s.trace ++ [.wait d] := by
  cases hMove with
  | starts place => exact .inl place
  | identifies => exact .inr ⟨_, .inl rfl, rfl⟩
  | retries => exact .inr ⟨_, .inl rfl, rfl⟩
  | polls => exact .inr ⟨_, .inr rfl, rfl⟩
  | attemptFails =>
    rw [attemptFailed_port] at hOffer
    nomatch hEmpty.symm.trans hOffer
  | pollFails =>
    rw [pollFailed_eq] at hOffer
    nomatch hEmpty.symm.trans hOffer
  | opens | waits | probed | connects | pollSucceeds | stays => nomatch hEmpty.symm.trans hOffer

/-- Settles O56: both waits are at least QUIESCENCE in a valid configuration (R283). -/
theorem offersKeepTheirDistance : Obligations.OffersKeepTheirDistance := by
  intro s t i hRest hPast hNext hOffer
  rw [step_of_atRest hRest] at hNext
  cases hNext
  rcases (hostStep_move s.lineMoves).wait_of_port hRest.noCommand hOffer with hStart | ⟨d, hd, hTrace⟩
  · exact absurd hStart hPast
  · refine ⟨d, ?_, hTrace⟩
    rcases hd with rfl | rfl
    · exact le_rfl
    · exact s.cfg.property.2.2.2.2.2

/-! ## The opening -/

theorem hostStep_of_opening {s : State} (hPhase : s.host.phase = .opening) : hostStep s = openStep s := by
  simp only [hostStep, hPhase]

theorem attemptFailed_phase_ne_opening (s : State) : (attemptFailed s).host.phase ≠ .opening := by
  rcases (attemptFailed_frame s).2.2.2 with h | h <;> simp [h]

/-- No move of the host leads back to the opening. -/
theorem HostMove.phase_ne_opening {s t : State} (hMove : HostMove s t) (hPast : s.host.phase ≠ .opening) :
    t.host.phase ≠ .opening := by
  cases hMove with
  | waits | stays => exact hPast
  | attemptFails => exact attemptFailed_phase_ne_opening _
  | pollFails => rw [pollFailed_eq]; nofun
  | opens | starts | probed | identifies | connects | retries | polls | pollSucceeds => nofun

/-- Past the opening every step stays past it: reset goes back there only if the transport is closed. -/
theorem step_phase_ne_opening {s t : State} (hInv : s.Inv) (hPast : s.host.phase ≠ .opening)
    (hNext : step s = .next t) : t.host.phase ≠ .opening := by
  cases hReset : s.resetIn with
  | true =>
    have hOpen : s.tp.isOpen = true := hInv.host.opened hPast
    rw [step_reset hReset] at hNext
    cases hNext
    simp [applyReset_phase, hOpen]
  | false =>
    rcases step_block_or_host hNext hReset with hBlock | ⟨-, rfl⟩
    · rw [hBlock.host]
      exact hPast
    · exact (hostStep_move s.lineMoves).phase_ne_opening hPast

theorem Action.isOpen_of_ofBlock {a : Action} (ha : a.ofBlock = true) : a.isOpen = false := by
  cases a <;> simp_all [Action.ofBlock, Action.isOpen]

/-- Only the host calls open, at its opening. -/
theorem step_open_action {s t : State} (hNext : step s = .next t) :
    ∃ acts, t.trace = s.trace ++ acts ∧ ((∃ a ∈ acts, a.isOpen = true) →
      s.host.phase = .opening ∧ s.pc = .idle ∧ acts = [.openTransport s.cfg.val.serialPath]) := by
  cases hReset : s.resetIn with
  | true =>
    rw [step_reset hReset] at hNext
    cases hNext
    exact ⟨[], (List.append_nil _).symm, nofun⟩
  | false =>
    rcases step_block_or_host hNext hReset with hBlock | ⟨hRest, rfl⟩
    · obtain ⟨acts, hTrace, hOwn⟩ := hBlock.actions
      refine ⟨acts, hTrace, fun ⟨a, ha, hOpen⟩ => ?_⟩
      simp [Action.isOpen_of_ofBlock (hOwn a ha)] at hOpen
    · obtain ⟨acts, hTrace, -, hOpening⟩ := (hostStep_move s.lineMoves).actions
      exact ⟨acts, hTrace, fun hOpen => ⟨(hOpening hOpen).1, hRest.idle, (hOpening hOpen).2⟩⟩

/-- Settles O60: the host's step at the opening, that no step leads back to it, and who calls open. -/
theorem hostOpensTransportOnce : Obligations.HostOpensTransportOnce := by
  refine ⟨fun s hRest hPhase => ?_, fun s t hInv hNext => ⟨fun hPast => ?_, step_open_action hNext⟩⟩
  · rw [step_of_atRest hRest, hostStep_of_opening (s := s.lineMoves) hPhase, openStep_eq,
      State.lineMoves_idle hRest.idle]
    rfl
  · have hStays := step_phase_ne_opening hInv hPast hNext
    exact ⟨hStays, (everyStepKeepsInv s t hInv hNext).host.opened hStays⟩

/-! ## The failure streak -/

/-- In a run of failed polls the streak grows by one each time, and link-down is reported when it passes
the threshold. -/
theorem foldl_pollFailed (es : List Failure) (s : State) :
    let t := es.foldl (fun s e => pollResult s (.fail e)) s
    t.host.failureStreak = s.host.failureStreak + es.length ∧ t.cfg = s.cfg
    ∧ t.trace.count .onLinkDown = s.trace.count .onLinkDown
        + (if s.host.failureStreak ≤ s.cfg.val.streakThreshold
            ∧ s.cfg.val.streakThreshold < s.host.failureStreak + es.length then 1 else 0) := by
  induction es generalizing s with
  | nil =>
    have hNever : ¬ (s.host.failureStreak ≤ s.cfg.val.streakThreshold
        ∧ s.cfg.val.streakThreshold < s.host.failureStreak) := by omega
    simp [hNever]
  | cons e es ih =>
    obtain ⟨hStreak, hCfg, hCount⟩ := ih (pollFailed s)
    have hOne : (pollFailed s).trace.count .onLinkDown = s.trace.count .onLinkDown
        + (if s.host.failureStreak = s.cfg.val.streakThreshold then 1 else 0) := by
      rw [pollFailed_eq, List.count_append]
      by_cases h : s.host.failureStreak = s.cfg.val.streakThreshold <;> simp [h]
    have hNext : (pollFailed s).host.failureStreak = s.host.failureStreak + 1 := by rw [pollFailed_eq]
    have hSame : (pollFailed s).cfg = s.cfg := by rw [pollFailed_eq]
    rw [hNext] at hStreak hCount
    rw [hSame] at hCfg hCount
    refine ⟨hStreak.trans (by simp; omega), hCfg, hCount.trans ?_⟩
    rw [hOne, List.length_cons, add_assoc]
    congr 1
    split_ifs <;> omega

/-- Settles O53: the run starts at streak 0, so it passes the threshold once at most; then a success. -/
theorem linkDownOncePerStreak : Obligations.LinkDownOncePerStreak := by
  intro s es st hZero
  obtain ⟨hStreak, -, hCount⟩ := foldl_pollFailed es s
  refine ⟨?_, by simpa [hZero] using hStreak, rfl, congrArg State.trace (pollSucceeded_eq _ st)⟩
  rw [hCount, hZero]
  simp

end Sys2Proof.Machine
end

-- ==== Runs, answers, and RECEIVE step by step ====
section
/-! PROOFS. Runs of several steps, the answers a transport gives, and that the machine's steps in RECEIVE
are the fold of `rxStep` over those answers (43_transaction_driver R185, 42_stream_receiver R178). -/

namespace Sys2Proof.Machine

open Host (Core)

/-! ## Runs -/

theorem run_succ {s t u : State} {n : Nat} (hNext : step s = .next t)
    (hRun : Core.run Sys2Proof.core n t = .next u) : Core.run Sys2Proof.core (n + 1) s = .next u := by
  have hStep : Sys2Proof.core.step s = .next t := hNext
  simp only [Core.run, hStep]
  exact hRun

theorem run_one {s t : State} (hNext : step s = .next t) : Core.run Sys2Proof.core 1 s = .next t :=
  run_succ hNext rfl

/-- A run that goes on begins with a step that goes on. -/
theorem exists_step_of_run_succ {s u : State} {n : Nat} (hRun : Core.run Sys2Proof.core (n + 1) s = .next u) :
    ∃ t, step s = .next t ∧ Core.run Sys2Proof.core n t = .next u := by
  cases hStep : Sys2Proof.core.step s with
  | next t =>
    simp only [Core.run, hStep] at hRun
    exact ⟨t, hStep, hRun⟩
  | fault e => simp [Core.run, hStep] at hRun
  | refused e => simp [Core.run, hStep] at hRun

theorem run_add {m n : Nat} {s t u : State} (hFirst : Core.run Sys2Proof.core m s = .next t)
    (hThen : Core.run Sys2Proof.core n t = .next u) : Core.run Sys2Proof.core (m + n) s = .next u := by
  induction m generalizing s with
  | zero =>
    cases hFirst
    rwa [Nat.zero_add]
  | succ m ih =>
    obtain ⟨s', hStep, hRest⟩ := exists_step_of_run_succ hFirst
    rw [Nat.succ_add]
    exact run_succ hStep (ih hRest)

/-- A predicate that every step keeps holds along every run. -/
theorem run_induction {P : State → Prop} (hKeep : ∀ s t, P s → step s = .next t → P t) {m : Nat} {s t : State}
    (hStart : P s) (hRun : Core.run Sys2Proof.core m s = .next t) : P t := by
  induction m generalizing s with
  | zero =>
    cases hRun
    exact hStart
  | succ m ih =>
    obtain ⟨s', hStep, hRest⟩ := exists_step_of_run_succ hRun
    exact ih (hKeep s s' hStart hStep) hRest

/-! ## The answers of a transport -/

/-- A transport that answers one read more answers now, and the rest behind it. -/
theorem Transport.answers_succ_eq_some {n : Nat} {t v : Transport} {as : List Answer}
    (h : Transport.answers (n + 1) t = some (as, v)) :
    ∃ a u rest, as = a :: rest ∧ t.move.rxEvent = some (a, u) ∧ Transport.answers n u = some (rest, v) := by
  rw [Transport.answers] at h
  cases hRead : t.move.rxEvent with
  | none => simp [hRead] at h
  | some au =>
    obtain ⟨a, u⟩ := au
    cases hRest : Transport.answers n u with
    | none => simp [hRead, hRest] at h
    | some av =>
      obtain ⟨rest, w⟩ := av
      simp only [hRead, hRest, Option.some.injEq, Prod.mk.injEq] at h
      obtain ⟨rfl, rfl⟩ := h
      exact ⟨a, u, rest, rfl, rfl, hRest⟩

theorem Transport.answers_length {n : Nat} {t v : Transport} {as : List Answer}
    (h : Transport.answers n t = some (as, v)) : as.length = n := by
  induction n generalizing t as with
  | zero => cases h; rfl
  | succ n ih =>
    obtain ⟨a, u, rest, rfl, -, hRest⟩ := answers_succ_eq_some h
    rw [List.length_cons, ih hRest]

/-- The answers to fewer reads are the first of them. -/
theorem Transport.answers_take {n k : Nat} {t v : Transport} {as : List Answer} (hk : k ≤ n)
    (h : Transport.answers n t = some (as, v)) : ∃ u, Transport.answers k t = some (as.take k, u) := by
  induction k generalizing n t as with
  | zero => exact ⟨t, rfl⟩
  | succ k ih =>
    obtain ⟨n, rfl⟩ : ∃ n', n = n' + 1 := ⟨n - 1, by omega⟩
    obtain ⟨a, u, rest, rfl, hRead, hRest⟩ := answers_succ_eq_some h
    obtain ⟨w, hTaken⟩ := ih (by omega) hRest
    exact ⟨w, by simp [Transport.answers, hRead, hTaken]⟩

/-- A transport that keeps its contract: open, answering, and nothing stops it later. -/
structure Transport.Reliable (t : Transport) : Prop where
  isOpen : t.isOpen = true
  answering : t.answering = true
  line : ∀ e ∈ t.line, e ≠ .stopped

theorem Transport.reliable_iff (t : Transport) : t.reliable = true ↔ t.Reliable := by
  constructor
  · intro h
    simp only [Transport.reliable, Bool.and_eq_true, List.all_eq_true, decide_eq_true_eq] at h
    exact ⟨h.1.1, h.1.2, h.2⟩
  · rintro ⟨hOpen, hAnswering, hLine⟩
    simpa [Transport.reliable, hOpen, hAnswering] using hLine

theorem Transport.Reliable.move {t : Transport} (h : t.Reliable) : t.move.Reliable := by
  obtain ⟨hOpen, hAnswering, hLine⟩ := h
  refine ⟨t.move_isOpen.trans hOpen, ?_, ?_⟩
  all_goals
    simp only [Transport.move_answering, Transport.move_line]
    rcases t.arrive_cases with ⟨hScript, e⟩ | ⟨bs, rest, hScript, e⟩ | ⟨rest, hScript, -⟩
    · rw [e]; assumption
    · rw [e]; simp_all
    · simp [hScript] at hLine

theorem Transport.Reliable.atReceive {t : Transport} (h : t.Reliable) (f : List Byte) :
    (t.atReceive f).Reliable := by
  have hFlushed : t.move.flushIn.flushOut.Reliable := ⟨h.move.isOpen, h.move.answering, h.move.line⟩
  exact ⟨hFlushed.move.isOpen, hFlushed.move.answering, hFlushed.move.line⟩

theorem Transport.Reliable.read {t u : Transport} {a : Answer} (h : t.Reliable)
    (hRead : t.rxEvent = some (a, u)) : u.Reliable := by
  rw [Transport.rxEvent_some hRead]
  exact ⟨h.isOpen, h.answering, h.line⟩

/-- A transport that keeps its contract answers any number of reads. -/
theorem Transport.Reliable.answers {t : Transport} (h : t.Reliable) (n : Nat) :
    ∃ as u, Transport.answers n t = some (as, u) := by
  induction n generalizing t with
  | zero => exact ⟨[], t, rfl⟩
  | succ n ih =>
    have hAnswers : t.move.rxEvent ≠ none := by
      rw [Ne, Transport.rxEvent_none_iff, h.move.answering]
      nofun
    obtain ⟨⟨a, u⟩, hRead⟩ := Option.ne_none_iff_exists'.mp hAnswers
    obtain ⟨as, v, hRest⟩ := ih (h.move.read hRead)
    exact ⟨a :: as, v, by simp [Transport.answers, hRead, hRest]⟩

/-! ## RECEIVE, one step for each answer -/

theorem receiveFrom_le {cfg : Config} {r r' : RxState} {k k' : Nat} {as : List Answer} {o : Ret (List Byte)}
    (h : receiveFrom cfg r k as = .ended r' o k') : k < k' ∧ k' ≤ k + as.length := by
  induction as generalizing r k with
  | nil => cases h
  | cons a as ih =>
    cases hTurn : rxStep cfg r a with
    | more r₁ =>
      rw [receiveFrom_more _ _ hTurn] at h
      have := ih h
      rw [List.length_cons]
      omega
    | done r₁ o₁ =>
      rw [receiveFrom_done _ _ hTurn] at h
      cases h
      rw [List.length_cons]
      omega

/-- Where RECEIVE's outcome leaves the block: VALIDATE, or POST_FLUSH with the failure as the result. -/
def State.afterReceive (s : State) (r : RxState) : Ret (List Byte) → State
  | .ok _ => { s with rx := r, pc := .validate }
  | .fail e => { s with rx := r, res := some (.fail e), pc := .postFlush }

theorem receiveAnswer_of_done {s : State} {a : Answer} {r : RxState} {o : Ret (List Byte)}
    (hTurn : rxStep s.cfg.val s.rx a = .done r o) : receiveAnswer s a = s.afterReceive r o := by
  cases o with
  | ok raw => exact receiveAnswer_of_ok hTurn
  | fail e => exact receiveAnswer_of_fail hTurn

/-- The step of RECEIVE: the line moves, and one answer is taken. -/
theorem step_of_receive {s : State} {a : Answer} {u : Transport} (hPhase : s.pc = .receive)
    (hPort : s.port = none) (hNoReset : s.resetIn = false) (hOpen : s.tp.isOpen = true)
    (hRead : s.tp.move.rxEvent = some (a, u)) :
    step s = .next (receiveAnswer { s with tp := u, trace := s.trace ++ [.rxEvent a] } a) := by
  have hMoved : ({ s with tp := s.tp.move } : State).tp.isOpen = true := by simpa using hOpen
  rw [step_busy hNoReset hPort (by simp [hPhase]), sequence_of_receive (by exact hPhase) hMoved hRead]
  rfl

/-- The machine's steps in RECEIVE are the fold of `rxStep` over the answers drawn. -/
theorem run_receive {s : State} {as : List Answer} {v : Transport} {r : RxState} {o : Ret (List Byte)}
    {k : Nat} (hPhase : s.pc = .receive) (hPort : s.port = none) (hNoReset : s.resetIn = false)
    (hOpen : s.tp.isOpen = true) (hAnswers : Transport.answers as.length s.tp = some (as, v))
    (hReceive : receiveFrom s.cfg.val s.rx k as = .ended r o (k + as.length)) :
    Core.run Sys2Proof.core as.length s
      = .next ({ s with tp := v, trace := s.trace ++ as.map Action.rxEvent }.afterReceive r o) := by
  induction as generalizing s k with
  | nil => cases hReceive
  | cons a as ih =>
    obtain ⟨a', u, rest, hSplit, hRead, hRest⟩ := Transport.answers_succ_eq_some hAnswers
    cases hSplit
    have hStep := step_of_receive hPhase hPort hNoReset hOpen hRead
    have hStillOpen : u.isOpen = true :=
      (Transport.rxEvent_isOpen hRead).trans (s.tp.move_isOpen.trans hOpen)
    have hIndex : k + (a :: as).length = k + 1 + as.length := by rw [List.length_cons]; omega
    rw [hIndex] at hReceive
    cases hTurn : rxStep s.cfg.val s.rx a with
    | more r₁ =>
      rw [receiveFrom_more _ _ hTurn] at hReceive
      rw [receiveAnswer_of_more (by exact hTurn)] at hStep
      have hRun := ih (s := { s with rx := r₁, tp := u, trace := s.trace ++ [.rxEvent a] })
        hPhase hPort hNoReset hStillOpen hRest hReceive
      rw [List.append_assoc, List.singleton_append, ← List.map_cons] at hRun
      exact run_succ hStep (hRun.trans (by cases o <;> rfl))
    | done r₁ o₁ =>
      rw [receiveFrom_done _ _ hTurn] at hReceive
      obtain rfl : as = [] := by
        injection hReceive with _ _ hLast
        exact List.length_eq_zero_iff.mp (by omega)
      cases hReceive
      cases hRest
      rw [receiveAnswer_of_done (by exact hTurn)] at hStep
      exact run_one hStep

end Sys2Proof.Machine
end

-- ==== Whole transactions ====
section
/-! PROOFS. From the acceptance of a command to IDLE the machine runs EXECUTE on the answers the transport
gives (43_transaction_driver R180, R195): the flush and the write, one step for each answer of RECEIVE, and
the steps that judge and deliver. Nothing but the configuration, the command and the answers enters
(20_memory R88). -/

namespace Sys2Proof.Machine

open Host (Core)

/-! ## From RECEIVE's outcome to IDLE -/

theorem step_of_postFlush {s : State} {x : Result} (hPhase : s.pc = .postFlush) (hPort : s.port = none)
    (hNoReset : s.resetIn = false) (hOpen : s.tp.isOpen = true) (hRes : s.res = some x) :
    step s = .next { s with pc := .idle, tp := s.tp.move.flushIn.flushOut, resultPort := some x,
                            trace := s.trace ++ [.flushIn, .flushOut, .result x] } := by
  have hMoved : ({ s with tp := s.tp.move } : State).tp.isOpen = true := by simpa using hOpen
  rw [step_busy hNoReset hPort (by simp [hPhase]), sequence_of_postFlush (by exact hPhase) hMoved,
    State.complete_eq, State.readRes_of_some (r := x) (by exact hRes)]

theorem step_of_validate {s : State} (hPhase : s.pc = .validate) (hPort : s.port = none)
    (hNoReset : s.resetIn = false) : step s = .next (validateStep { s with tp := s.tp.move }) := by
  rw [step_busy hNoReset hPort (by simp [hPhase]), sequence_of_validate (by exact hPhase)]

theorem step_of_dispatch {s : State} {c : Command} (hPhase : s.pc = .dispatch) (hPort : s.port = none)
    (hNoReset : s.resetIn = false) (hCmd : s.cmd = some c) :
    step s = .next { s with res := some (decodeResp s.cfg.val c (framePayload s.rx.buf)), pc := .postFlush,
                            tp := s.tp.move } := by
  rw [step_busy hNoReset hPort (by simp [hPhase]), sequence_of_dispatch (by exact hPhase), dispatchStep_eq,
    State.readCmd_of_some (c := c) (by exact hCmd)]

/-- The steps from RECEIVE's end to IDLE: VALIDATE and DISPATCH as far as they are reached, and
POST_FLUSH. -/
def stepsAfter : Ret (List Byte) → Nat
  | .fail _ => 1
  | .ok raw =>
    match decodeFrame raw with
    | .fail _ => 2
    | .ok _ => 3

/-- From RECEIVE's outcome the block delivers the result EXECUTE judges it to be. -/
theorem run_afterReceive {s : State} {c : Command} {r : RxState} {o : Ret (List Byte)}
    (hCmd : s.cmd = some c) (hPort : s.port = none) (hNoReset : s.resetIn = false)
    (hOpen : s.tp.isOpen = true) (hRaw : ∀ raw, o = .ok raw → raw = r.buf) :
    Core.run Sys2Proof.core (stepsAfter o) (s.afterReceive r o)
      = .next { s with
          pc := .idle, rx := r, res := some (judge s.cfg.val c o)
          tp := (Transport.move^[stepsAfter o] s.tp).flushIn.flushOut
          resultPort := some (judge s.cfg.val c o)
          trace := s.trace ++ [.flushIn, .flushOut, .result (judge s.cfg.val c o)] } := by
  have hOpen₁ : s.tp.move.isOpen = true := s.tp.move_isOpen.trans hOpen
  cases o with
  | fail e => exact run_one (step_of_postFlush rfl hPort hNoReset hOpen rfl)
  | ok raw =>
    obtain rfl := hRaw raw rfl
    have hValidate := step_of_validate (s := s.afterReceive r (.ok r.buf)) rfl hPort hNoReset
    cases hDecoded : decodeFrame r.buf with
    | fail e =>
      simp only [stepsAfter, judge, hDecoded]
      rw [validateStep_of_fail (by exact hDecoded)] at hValidate
      exact run_succ hValidate (run_one (step_of_postFlush rfl hPort hNoReset hOpen₁ rfl))
    | ok f =>
      have hPayload : f.payload = framePayload r.buf := by rw [decodeFrame_ok_payload hDecoded]
      simp only [stepsAfter, judge, hDecoded, hPayload]
      rw [validateStep_of_ok (by exact hDecoded)] at hValidate
      exact run_succ hValidate (run_succ (step_of_dispatch rfl hPort hNoReset hCmd)
        (run_one (step_of_postFlush rfl hPort hNoReset ((Transport.move_isOpen _).trans hOpen₁) rfl)))

/-! ## EXECUTE, step by step -/

/-- The actions of a transaction of command `c` that draws `as` and delivers `x` (R191). -/
def transactionActions (cfg : Config) (c : Command) (as : List Answer) (x : Result) : List Action :=
  Action.flushIn :: Action.flushOut :: Action.txWrite (commandFrame cfg c)
    :: (as.map Action.rxEvent ++ [Action.flushIn, Action.flushOut, Action.result x])

theorem append_transactionActions (past : List Action) (cfg : Config) (c : Command) (as : List Answer)
    (x : Result) :
    past ++ transactionActions cfg c as x
      = past ++ [Action.flushIn, .flushOut] ++ [Action.txWrite (commandFrame cfg c)]
        ++ as.map Action.rxEvent ++ [Action.flushIn, .flushOut, .result x] := by
  simp [transactionActions]

theorem Transport.answers_isOpen {n : Nat} {t v : Transport} {as : List Answer}
    (h : Transport.answers n t = some (as, v)) : v.isOpen = t.isOpen := by
  induction n generalizing t as with
  | zero => cases h; rfl
  | succ n ih =>
    obtain ⟨a, u, rest, -, hRead, hRest⟩ := answers_succ_eq_some h
    rw [ih hRest, Transport.rxEvent_isOpen hRead, t.move_isOpen]

/-- The steps of a transaction: the flush, the write, one for each answer, and those behind RECEIVE. -/
def transactionSteps (as : List Answer) (o : Ret (List Byte)) : Nat := 1 + (1 + (as.length + stepsAfter o))

/-- The raw frame RECEIVE returns is its buffer. -/
theorem receive_ok_eq_buf {cfg : ValidConfig} {as : List Answer} {r : RxState} {raw : List Byte} {k : Nat}
    (h : receive cfg.val as = .ended r (.ok raw) k) : raw = r.buf := by
  have hOutcome := receive_outcome cfg as
  rw [h] at hOutcome
  obtain _ | @⟨_, _, _, _, _, _, _, hSeen, hTurn⟩ := hOutcome
  exact (hSeen.live.rawFrame_of_done hTurn).1

/-- A command that has been accepted runs to the delivery of EXECUTE's result. -/
theorem run_transaction {s : State} {c : Command} {as : List Answer} {u : Transport} {r : RxState}
    {o : Ret (List Byte)} (hRest : s.AtRest) (hOpen : s.tp.isOpen = true)
    (hAnswers : Transport.answers as.length (s.tp.atReceive (commandFrame s.cfg.val c)) = some (as, u))
    (hReceive : receive s.cfg.val as = .ended r o as.length) :
    Core.run Sys2Proof.core (transactionSteps as o) (accept c s)
      = .next { s with
          pc := .idle, cmd := some c, txFrame := some (commandFrame s.cfg.val c), rx := r
          res := some (judge s.cfg.val c o)
          tp := (Transport.move^[stepsAfter o] u).flushIn.flushOut
          resultPort := some (judge s.cfg.val c o)
          trace := s.trace ++ transactionActions s.cfg.val c as (judge s.cfg.val c o) } := by
  have hOpen₁ : s.tp.move.flushIn.flushOut.isOpen = true := s.tp.move_isOpen.trans hOpen
  have hOpen₂ : (s.tp.atReceive (commandFrame s.cfg.val c)).isOpen = true :=
    (Transport.move_isOpen _).trans hOpen₁
  have hFlush := step_of_preFlush (s := accept c s) rfl hRest.noCommand hRest.noReset hOpen
  have hWrite := step_of_send (f := commandFrame s.cfg.val c)
    (s := { accept c s with pc := .send, tp := s.tp.move.flushIn.flushOut,
                            trace := s.trace ++ [.flushIn, .flushOut] })
    rfl hRest.noCommand hRest.noReset hOpen₁ rfl
  have hRead := run_receive (k := 0)
    (s := { accept c s with pc := .receive, rx := RxState.init, tp := s.tp.atReceive (commandFrame s.cfg.val c),
                            trace := s.trace ++ [.flushIn, .flushOut] ++ [.txWrite (commandFrame s.cfg.val c)] })
    rfl hRest.noCommand hRest.noReset hOpen₂ hAnswers (by rw [Nat.zero_add]; exact hReceive)
  have hAfter := run_afterReceive (c := c) (r := r) (o := o)
    (s := { accept c s with
      pc := .receive, rx := RxState.init, tp := u,
      trace := s.trace ++ [.flushIn, .flushOut] ++ [.txWrite (commandFrame s.cfg.val c)] ++ as.map .rxEvent })
    rfl hRest.noCommand hRest.noReset ((Transport.answers_isOpen hAnswers).trans hOpen₂)
    fun raw hOk => receive_ok_eq_buf (hOk ▸ hReceive)
  rw [append_transactionActions]
  exact run_add (run_one hFlush) (run_add (run_one hWrite) (run_add hRead hAfter))

theorem accept_of_taken {s : State} {i : Instr} {c : Command} (hIdle : s.pc = .idle) (hTaken : taken i = some c) :
    exec i s = .next (accept c s) := by
  rw [exec_eq_offer, hTaken, offer_idle_some hIdle]

theorem execute_of_receive {cfg : Config} {i : Instr} {c : Command} {as : List Answer} {r : RxState}
    {o : Ret (List Byte)} {k : Nat} (hTaken : taken i = some c) (hReceive : receive cfg as = .ended r o k) :
    execute cfg i as = some { result := judge cfg c o, consumed := k,
                              actions := transactionActions cfg c (as.take k) (judge cfg c o) } := by
  simp only [execute, hTaken, hReceive]
  rfl

/-- RECEIVE ends with the answers it has consumed, whatever comes behind them. -/
theorem receiveFrom_take {cfg : Config} {r r' : RxState} {n k : Nat} {as : List Answer} {o : Ret (List Byte)}
    (h : receiveFrom cfg r n as = .ended r' o k) : receiveFrom cfg r n (as.take (k - n)) = .ended r' o k := by
  induction as generalizing r n with
  | nil => cases h
  | cons a as ih =>
    have hLater := (receiveFrom_le h).1
    have hIndex : k - n = (k - (n + 1)) + 1 := by omega
    rw [hIndex, List.take_succ_cons]
    cases hTurn : rxStep cfg r a with
    | more r₁ =>
      rw [receiveFrom_more _ _ hTurn] at h ⊢
      exact ih h
    | done r₁ o₁ =>
      rw [receiveFrom_done _ _ hTurn] at h ⊢
      exact h

theorem receive_take {cfg : Config} {as : List Answer} {r : RxState} {o : Ret (List Byte)} {k : Nat}
    (h : receive cfg as = .ended r o k) :
    (as.take k).length = k ∧ receive cfg (as.take k) = .ended r o k := by
  have hInside := (receiveFrom_le h).2
  exact ⟨List.length_take_of_le (by omega), receiveFrom_take h⟩

/-- On the answers of a transport for as many reads as the bound, RECEIVE ends. -/
theorem exists_receive_ended {cfg : ValidConfig} {t u : Transport} {as : List Answer}
    (hAnswers : Transport.answers (receiveBound cfg.val) t = some (as, u)) :
    ∃ r o k, k ≤ receiveBound cfg.val ∧ receive cfg.val as = .ended r o k := by
  obtain ⟨r, o, k, hReceive, hk⟩ := receive_ends cfg (Transport.answers_length hAnswers).ge
  exact ⟨r, o, k, hk, hReceive⟩

/-- The transaction on the answers a transport gives for as many reads as the bound: it draws as many of
them as RECEIVE consumes. -/
theorem run_transaction_of_answers {s : State} {c : Command} {as : List Answer} {n k : Nat} {u : Transport}
    {r : RxState} {o : Ret (List Byte)} (hRest : s.AtRest) (hOpen : s.tp.isOpen = true) (hk : k ≤ n)
    (hAnswers : Transport.answers n (s.tp.atReceive (commandFrame s.cfg.val c)) = some (as, u))
    (hReceive : receive s.cfg.val as = .ended r o k) :
    ∃ v : Transport, Core.run Sys2Proof.core (transactionSteps (as.take k) o) (accept c s)
      = .next { s with
          pc := .idle, cmd := some c, txFrame := some (commandFrame s.cfg.val c), rx := r
          res := some (judge s.cfg.val c o), tp := v.flushIn.flushOut
          resultPort := some (judge s.cfg.val c o)
          trace := s.trace ++ transactionActions s.cfg.val c (as.take k) (judge s.cfg.val c o) } := by
  obtain ⟨hLength, hSame⟩ := receive_take hReceive
  obtain ⟨v, hFirst⟩ := Transport.answers_take hk hAnswers
  exact ⟨_, run_transaction hRest hOpen (by rw [hLength]; exact hFirst) (by rw [hLength]; exact hSame)⟩

/-- Settles O36: the machine runs the transaction on the answers that RECEIVE consumes. -/
theorem transactionRefinesExecute : Obligations.TransactionRefinesExecute := by
  intro s i c hRest hReliable hTaken
  have hContract := (Transport.reliable_iff _).mp hReliable
  obtain ⟨as, u, hAnswers⟩ := (hContract.atReceive (commandFrame s.cfg.val c)).answers (receiveBound s.cfg.val)
  obtain ⟨r, o, k, hk, hReceive⟩ := exists_receive_ended hAnswers
  obtain ⟨v, hRun⟩ := run_transaction_of_answers hRest hContract.isOpen hk hAnswers hReceive
  exact ⟨as, u, _, _, _, _, hAnswers, execute_of_receive hTaken hReceive, accept_of_taken hRest.idle hTaken,
    hRun, rfl, rfl, rfl, rfl, rfl, rfl, rfl, rfl, rfl, rfl, hRest.noCommand⟩

/-- Settles O37: steps, result and actions of the transaction name no register of the past. -/
theorem resultIndependentOfHistory : Obligations.ResultIndependentOfHistory := by
  intro s s' i c as u u' hRest hRest' hReliable hReliable' hCfg hTaken hAnswers hAnswers'
  have hOpen := ((Transport.reliable_iff _).mp hReliable).isOpen
  have hOpen' := ((Transport.reliable_iff _).mp hReliable').isOpen
  obtain ⟨r, o, k, hk, hReceive⟩ := exists_receive_ended hAnswers
  obtain ⟨v, hRun⟩ := run_transaction_of_answers hRest hOpen hk hAnswers hReceive
  rw [hCfg] at hRun hk hAnswers' hReceive
  obtain ⟨v', hRun'⟩ := run_transaction_of_answers hRest' hOpen' hk hAnswers' hReceive
  exact ⟨_, _, _, _, _, _, accept_of_taken hRest.idle hTaken, accept_of_taken hRest'.idle hTaken,
    hRun, hRun', rfl, rfl, rfl, rfl, rfl, rfl, rfl⟩

end Sys2Proof.Machine
end

-- ==== A run of failed polls ====
section
/-! PROOFS. Over the machine's steps (44_host_lifecycle R213): from rest before a poll the lifecycle is
always somewhere in a poll, and as long as none has succeeded the history holds one result for each poll
that failed, and link-down once the streak has passed the threshold. -/

namespace Sys2Proof.Machine

open Host (Core)

/-- How far the lifecycle is in a poll, with the number of results delivered and not yet counted. -/
inductive PollPlace (t : State) : Nat → Prop
  | gap (phase : t.host.phase = .gapPoll) (idle : t.pc = .idle) (port : t.port = none) : PollPlace t 0
  | offered (i : Instr) (phase : t.host.phase = .awaitPoll) (idle : t.pc = .idle) (port : t.port = some i)
      (result : t.resultPort = none) : PollPlace t 0
  | busy (phase : t.host.phase = .awaitPoll) (busy : t.pc ≠ .idle) (port : t.port = none)
      (result : t.resultPort = none) : PollPlace t 0
  | delivered (r : Result) (phase : t.host.phase = .awaitPoll) (idle : t.pc = .idle) (port : t.port = none)
      (result : t.resultPort = some r) : PollPlace t 1

/-- Between two polls every result has been counted. -/
theorem PollPlace.eq_zero_of_gap {t : State} {n : Nat} (h : PollPlace t n) (hGap : t.host.phase = .gapPoll) :
    n = 0 := by
  cases h with
  | delivered _ phase => exact nomatch hGap.symm.trans phase
  | gap | offered | busy => rfl

/-- What a run of polls from `s` to `t` has left in the history. -/
structure PollRun (s t : State) (acts : List Action) (n : Nat) : Prop where
  trace : t.trace = s.trace ++ acts
  cfg : t.cfg = s.cfg
  noReset : t.resetIn = false
  place : PollPlace t n
  counts : .onLinkUp ∉ acts →
    acts.count .onLinkDown = (if s.cfg.val.streakThreshold < t.host.failureStreak then 1 else 0)
    ∧ acts.countP Action.isResult = t.host.failureStreak + n

/-- A step that counts no poll adds to the results just those it delivers. -/
theorem PollRun.extend {s t u : State} {acts new : List Action} {n n' : Nat} (h : PollRun s t acts n)
    (hNext : step t = .next u) (hTrace : u.trace = t.trace ++ new) (hPlace : PollPlace u n')
    (hStreak : u.host.failureStreak = t.host.failureStreak) (hDown : new.count .onLinkDown = 0)
    (hResults : n' = n + new.countP Action.isResult) : PollRun s u (acts ++ new) n' := by
  obtain ⟨hCfg, hNoReset⟩ := step_keeps hNext
  refine ⟨by rw [hTrace, h.trace, List.append_assoc], hCfg.trans h.cfg, hNoReset, hPlace, fun hNoLinkUp => ?_⟩
  obtain ⟨hDowns, hCount⟩ := h.counts fun hMem => hNoLinkUp (List.mem_append_left _ hMem)
  rw [List.count_append, List.countP_append, hDowns, hCount, hDown, hStreak]
  exact ⟨rfl, by omega⟩

/-- A step of the busy block delivers a result and is idle, or does neither. -/
theorem sequence_delivers {s t : State} (hBusy : s.pc ≠ .idle) (hNext : sequence s = .next t) :
    ∃ new, t.trace = s.trace ++ new ∧ new.count .onLinkDown = 0
      ∧ ((t.resultPort = s.resultPort ∧ new.countP Action.isResult = 0)
        ∨ (t.pc = .idle ∧ (∃ r, t.resultPort = some r) ∧ new.countP Action.isResult = 1)) := by
  rcases sequence_writes hBusy hNext with
    ⟨-, rfl⟩ | ⟨-, rfl⟩ | ⟨-, a, u, p, r, -, rfl⟩ | ⟨-, p, r, rfl⟩ | ⟨-, r, rfl⟩ | ⟨-, rfl⟩
  · exact ⟨_, rfl, rfl, .inl ⟨rfl, rfl⟩⟩
  · exact ⟨_, rfl, rfl, .inl ⟨rfl, rfl⟩⟩
  · exact ⟨_, rfl, rfl, .inl ⟨rfl, rfl⟩⟩
  · exact ⟨[], (List.append_nil _).symm, rfl, .inl ⟨rfl, rfl⟩⟩
  · exact ⟨[], (List.append_nil _).symm, rfl, .inl ⟨rfl, rfl⟩⟩
  · exact ⟨_, rfl, rfl, .inr ⟨rfl, ⟨_, rfl⟩, rfl⟩⟩

/-- The host counts the result of a poll: a success reports link-up, and a failure adds one to the streak. -/
theorem PollRun.pollResult {s t : State} {acts : List Action} (h : PollRun s t acts 1)
    (hIdle : t.pc = .idle) (hPort : t.port = none) (r : Result) :
    ∃ new, PollRun s (pollResult (t.lineMoves.setResultPort none) r) (acts ++ new) 0 := by
  have hFailed : PollRun s (pollFailed (t.lineMoves.setResultPort none)) (acts
      ++ if t.host.failureStreak + 1 = s.cfg.val.streakThreshold + 1 then [.onLinkDown] else []) 0 := by
    rw [pollFailed_eq]
    refine ⟨?_, h.cfg, h.noReset, .gap rfl hIdle hPort, fun hNoLinkUp => ?_⟩
    · simp [h.trace, h.cfg]
    · obtain ⟨hDowns, hCount⟩ := h.counts fun hMem => hNoLinkUp (List.mem_append_left _ hMem)
      rw [List.count_append, List.countP_append, hDowns, hCount]
      dsimp only [State.setResultPort_host, State.lineMoves_host]
      constructor
      · split_ifs <;> simp <;> omega
      · split_ifs <;> simp [Action.isResult]
  match r with
  | .ok (.operationalStatus st) =>
    refine ⟨[.onTelemetry st, .onLinkUp], ?_⟩
    have hOk : Machine.pollResult (t.lineMoves.setResultPort none) (.ok (.operationalStatus st))
        = pollSucceeded (t.lineMoves.setResultPort none) st := rfl
    rw [hOk, pollSucceeded_eq]
    exact ⟨by simp [h.trace], h.cfg, h.noReset, .gap rfl hIdle hPort, fun hNoLinkUp => by simp at hNoLinkUp⟩
  | .ok .probeAck | .ok (.identity _) | .fail _ => exact ⟨_, hFailed⟩

/-- Every step of the machine goes on with the run of polls. -/
theorem PollRun.step {s t u : State} {acts : List Action} {n : Nat} (h : PollRun s t acts n)
    (hNext : step t = .next u) : ∃ acts' n', PollRun s u acts' n' := by
  cases h.place with
  | gap hPhase hIdle hPort =>
    have hPoll := step_of_atRest ⟨hIdle, hPort, h.noReset⟩
    rw [hostStep_of_gapPoll (s := t.lineMoves) hPhase, pollStart_eq] at hPoll
    cases hPoll.symm.trans hNext
    exact ⟨_, 0, h.extend hPoll rfl (.offered _ rfl hIdle rfl rfl) (HostState.samplePower_failureStreak _)
      rfl rfl⟩
  | offered i hPhase hIdle hPort hResult =>
    have hExec := (step_command h.noReset hPort).symm.trans hNext
    rcases exec_next_cases hExec with ⟨-, c, -, rfl⟩ | ⟨-, -, rfl⟩ | ⟨hBusy, -⟩
    · exact ⟨_, 0, h.extend hNext (List.append_nil _).symm (.busy hPhase nofun rfl hResult) rfl rfl rfl⟩
    · exact ⟨_, 1, h.extend hNext rfl (.delivered _ hPhase hIdle rfl rfl) rfl rfl rfl⟩
    · exact absurd hIdle hBusy
  | busy hPhase hBusy hPort hResult =>
    have hSeq := (step_of_busy h.noReset hBusy).symm.trans hNext
    have hFrame := sequence_frame hSeq
    have hHost : u.host = t.host := hFrame.host
    have hEmpty : u.port = none := hFrame.port
    have hPhase' : u.host.phase = .awaitPoll := by rw [hHost, hPhase]
    obtain ⟨new, hTrace, hDown, ⟨hSame, hNone⟩ | ⟨hIdle, ⟨r, hDelivered⟩, hOne⟩⟩ :=
      sequence_delivers (s := t.lineMoves.setPort none) hBusy hSeq
    · have hResult' : u.resultPort = none := hSame.trans hResult
      have hBusy' : u.pc ≠ .idle :=
        (sequence_progress (s := t.lineMoves.setPort none) hBusy hSeq).resolve_right (by simp [hResult'])
      exact ⟨_, 0, h.extend hNext hTrace (.busy hPhase' hBusy' hEmpty hResult') (by rw [hHost]) hDown
        (by rw [hNone])⟩
    · exact ⟨_, 1, h.extend hNext hTrace (.delivered r hPhase' hIdle hEmpty hDelivered) (by rw [hHost]) hDown
        (by rw [hOne])⟩
  | delivered r hPhase hIdle hPort hResult =>
    have hCounted := step_of_atRest ⟨hIdle, hPort, h.noReset⟩
    rw [hostStep_of_awaitPoll (s := t.lineMoves) hPhase hResult] at hCounted
    cases hCounted.symm.trans hNext
    obtain ⟨new, hRun⟩ := h.pollResult hIdle hPort r
    exact ⟨_, 0, hRun⟩

/-- Settles O54: the run of polls, kept by every step, says what its history holds. -/
theorem linkDownOncePerRunOfFailedPolls : Obligations.LinkDownOncePerRunOfFailedPolls := by
  intro s t m hRest hPhase hZero hRun
  have hStart : PollRun s s [] 0 :=
    ⟨(List.append_nil _).symm, rfl, hRest.noReset, .gap hPhase hRest.idle hRest.noCommand, by simp [hZero]⟩
  obtain ⟨acts, n, hPolls⟩ := run_induction (P := fun t => ∃ acts n, PollRun s t acts n)
    (fun _ _ ⟨_, _, h⟩ hNext => h.step hNext) ⟨[], 0, hStart⟩ hRun
  refine ⟨acts, hPolls.trace, fun hNoLinkUp => ?_⟩
  obtain ⟨hDowns, hCount⟩ := hPolls.counts hNoLinkUp
  exact ⟨hDowns, fun hGap => by rw [hCount, hPolls.place.eq_zero_of_gap hGap, Nat.add_zero]⟩

end Sys2Proof.Machine
end

-- ==== The cap on failed attempts ====
section
/-! PROOFS. On a transport on which nothing arrives every PROBE times out (44_host_lifecycle R209): one
attempt is one transaction of EXECUTE on reports alone, it counts once, and at the cap the engine stops. -/

namespace Sys2Proof.Machine

open Host (Core)

/-! ## A transport on which nothing arrives -/

/-- Nothing arrives in the next `n` steps, and every read answers. -/
structure Transport.Silent (t : Transport) (n : Nat) : Prop where
  isOpen : t.isOpen = true
  answering : t.answering = true
  line : ∃ m, n ≤ m ∧ t.line = List.replicate m (.arrive [])

theorem Transport.Silent.mono {t : Transport} {m n : Nat} (h : t.Silent n) (hm : m ≤ n) : t.Silent m := by
  obtain ⟨hOpen, hAnswering, k, hk, hLine⟩ := h
  exact ⟨hOpen, hAnswering, k, hm.trans hk, hLine⟩

/-- The line's arrival takes one entry off a silent script and nothing else. -/
theorem Transport.Silent.arrive_eq {t : Transport} {n : Nat} (h : t.Silent (n + 1)) :
    ∃ m, n ≤ m ∧ t.arrive = { t with line := List.replicate m (.arrive []) } := by
  obtain ⟨m, hm, hLine⟩ := h.line
  obtain ⟨m, rfl⟩ : ∃ m', m = m' + 1 := ⟨m - 1, by omega⟩
  rw [List.replicate_succ] at hLine
  exact ⟨m, by omega, by simp [Transport.arrive, hLine]⟩

theorem Transport.Silent.arrive {t : Transport} {n : Nat} (h : t.Silent (n + 1)) : t.arrive.Silent n := by
  obtain ⟨m, hm, e⟩ := h.arrive_eq
  rw [e]
  exact ⟨h.isOpen, h.answering, m, hm, rfl⟩

theorem Transport.Silent.arrive_tin {t : Transport} {n : Nat} (h : t.Silent (n + 1)) :
    t.arrive.tin = t.tin := by
  obtain ⟨m, -, e⟩ := h.arrive_eq
  rw [e]

theorem Transport.Silent.move {t : Transport} {n : Nat} (h : t.Silent (n + 1)) : t.move.Silent n :=
  ⟨h.arrive.isOpen, h.arrive.answering, h.arrive.line⟩

theorem Transport.Silent.between {t : Transport} {n : Nat} (h : t.Silent (n + 1)) : t.between.Silent n :=
  ⟨h.arrive.isOpen, h.arrive.answering, h.arrive.line⟩

theorem State.lineMoves_silent {s : State} {n : Nat} (h : s.tp.Silent (n + 1)) : s.lineMoves.tp.Silent n := by
  rw [State.lineMoves_eq]
  split
  · exact h.between
  · exact h.move

theorem Transport.Silent.flush {t : Transport} {n : Nat} (h : t.Silent n) : t.flushIn.flushOut.Silent n :=
  ⟨h.isOpen, h.answering, h.line⟩

theorem Transport.Silent.atReceive {t : Transport} {n : Nat} (h : t.Silent (n + 2)) (f : List Byte) :
    (t.atReceive f).Silent n ∧ (t.atReceive f).tin = [] := by
  have hFlushed := h.move.flush
  exact ⟨⟨hFlushed.move.isOpen, hFlushed.move.answering, hFlushed.move.line⟩, hFlushed.arrive_tin⟩

/-- Reads of a silent transport with an empty input buffer are all no-byte reports. -/
theorem Transport.Silent.answers {t : Transport} {n : Nat} (k : Nat) (h : t.Silent (n + k)) (hEmpty : t.tin = []) :
    ∃ u, Transport.answers k t = some (List.replicate k .silence, u) ∧ u.Silent n := by
  induction k generalizing t with
  | zero => exact ⟨t, rfl, h⟩
  | succ k ih =>
    have hMoved := h.move
    have hTin : t.move.tin = [] := h.arrive_tin.trans hEmpty
    have hRead : t.move.rxEvent = some (.silence, t.move) :=
      (readTakesOldestByte t.move hMoved.answering).2 hTin
    obtain ⟨u, hRest, hSilent⟩ := ih hMoved hTin
    exact ⟨u, by simp [Transport.answers, hRead, hRest, List.replicate_succ], hSilent⟩

/-! ## The history of the attempts -/

/-- The actions of `attempts` failed attempts: as many frames of PROBE, TIMEOUT_LIMIT reads for each, and
no callback. -/
structure ProbeHistory (cfg : Config) (attempts : Nat) (acts : List Action) : Prop where
  frames : acts.filter Action.isTx = List.replicate attempts (.txWrite (commandFrame cfg .probe))
  reads : acts.countP Action.isRx = attempts * cfg.timeoutLimit
  quiet : acts.all (fun a => !a.isCallback) = true

theorem ProbeHistory.append {cfg : Config} {m n : Nat} {acts acts' : List Action}
    (h : ProbeHistory cfg m acts) (h' : ProbeHistory cfg n acts') :
    ProbeHistory cfg (m + n) (acts ++ acts') where
  frames := by rw [List.filter_append, h.frames, h'.frames, List.replicate_append_replicate]
  reads := by rw [List.countP_append, h.reads, h'.reads, Nat.add_mul]
  quiet := by rw [List.all_append, h.quiet, h'.quiet]; rfl

theorem ProbeHistory.wait (cfg : Config) (d : Nat) : ProbeHistory cfg 0 [.wait d] :=
  ⟨rfl, (Nat.zero_mul _).symm, rfl⟩

/-- One transaction of PROBE on reports alone. -/
theorem ProbeHistory.transaction (cfg : Config) (x : Result) :
    ProbeHistory cfg 1 (transactionActions cfg .probe (List.replicate cfg.timeoutLimit .silence) x) := by
  constructor <;>
    simp [transactionActions, List.filter_cons, Action.isTx, Action.isRx, Action.isCallback, List.countP_replicate]

/-! ## One attempt, and all of them -/

/-- PROBE stands on the port of an idle block, and its result is awaited. -/
structure State.Probing (s : State) : Prop where
  idle : s.pc = .idle
  noReset : s.resetIn = false
  port : s.port = some .probe
  phase : s.host.phase = .awaitProbe

/-- A PROBE offered in `s` has timed out, and its result waits for the host in `t`. -/
structure State.TimedOut (s t : State) (n : Nat) : Prop where
  rest : t.AtRest
  cfg : t.cfg = s.cfg
  host : t.host = s.host
  res : t.res = some (.fail (.timeout s.cfg.val.timeoutLimit))
  resultPort : t.resultPort = some (.fail (.timeout s.cfg.val.timeoutLimit))
  silent : t.tp.Silent n
  history : ∃ acts, t.trace = s.trace ++ acts ∧ ProbeHistory s.cfg.val 1 acts

/-- A PROBE on a silent transport is taken, sent, and times out. -/
theorem run_probe_timeout {s : State} {n : Nat} (h : s.Probing)
    (hSilent : s.tp.Silent (n + s.cfg.val.timeoutLimit + 4)) :
    ∃ (m : Nat) (t : State), Core.run Sys2Proof.core m s = .next t ∧ s.TimedOut t n := by
  have hRest : (s.lineMoves.setPort none).AtRest := ⟨h.idle, rfl, h.noReset⟩
  have hTaken : step s = .next (accept .probe (s.lineMoves.setPort none)) := by
    rw [step_command h.noReset h.port]
    exact accept_of_taken hRest.idle rfl
  have hQuiet : (s.lineMoves.setPort none).tp.Silent (n + s.cfg.val.timeoutLimit + 3) :=
    State.lineMoves_silent hSilent
  obtain ⟨hReading, hEmpty⟩ := Transport.Silent.atReceive (n := n + 1 + s.cfg.val.timeoutLimit)
    (hQuiet.mono (by omega)) (commandFrame s.cfg.val .probe)
  obtain ⟨u, hAnswers, hLeft⟩ := hReading.answers _ hEmpty
  obtain ⟨r, hTimeout⟩ := (silentTransportTimesOut s.cfg s.cfg.val.timeoutLimit).2 le_rfl
  have hRun := run_transaction (c := .probe) hRest hQuiet.isOpen
    (by rw [List.length_replicate]; exact hAnswers) (by rw [List.length_replicate]; exact hTimeout)
  exact ⟨_, _, run_succ hTaken hRun, ⟨rfl, rfl, h.noReset⟩, rfl, rfl, rfl, rfl, hLeft.move.flush,
    _, rfl, .transaction _ _⟩

/-- The engine has stopped after the attempts the history holds. -/
structure State.GaveUp (s t : State) (attempts : Nat) : Prop where
  connState : t.host.connState = .cantConnect
  count : t.host.attemptCount = s.cfg.val.attemptCap
  res : t.res = some (.fail (.timeout s.cfg.val.timeoutLimit))
  history : ∃ acts, t.trace = s.trace ++ acts ∧ ProbeHistory s.cfg.val attempts acts

/-- The attempt that reaches the cap stops the engine. -/
theorem State.TimedOut.gaveUp {s t : State} {n : Nat} (h : s.TimedOut t n) (hPhase : s.host.phase = .awaitProbe)
    (hCap : s.host.attemptCount + 1 = s.cfg.val.attemptCap) : ∃ u : State, step t = .next u ∧ s.GaveUp u 1 := by
  have hReached : t.host.attemptCount + 1 = t.cfg.val.attemptCap := by rw [h.host, h.cfg, hCap]
  have hSet : t.cfg.val.attemptCap ≠ 0 := by omega
  have hStop := step_of_attempt_fail h.rest h.resultPort (.inl (h.host ▸ hPhase))
  rw [attemptFailed_of_cap (s := t.lineMoves.setResultPort none) hSet hReached] at hStop
  exact ⟨_, hStop, rfl, hReached.trans (by rw [h.cfg]), h.res, h.history⟩

/-- An attempt below the cap is counted, and PROBE is offered again. -/
theorem State.TimedOut.retries {s t : State} {n : Nat} (h : s.TimedOut t (n + 2))
    (hPhase : s.host.phase = .awaitProbe) (hBelow : s.host.attemptCount + 1 ≠ s.cfg.val.attemptCap) :
    ∃ u : State, Core.run Sys2Proof.core 2 t = .next u ∧ u.Probing ∧ u.cfg = s.cfg
      ∧ u.host.attemptCount = s.host.attemptCount + 1 ∧ u.tp.Silent n
      ∧ ∃ acts, u.trace = s.trace ++ acts ∧ ProbeHistory s.cfg.val 1 acts := by
  obtain ⟨acts, hTrace, hHistory⟩ := h.history
  have hNot : t.cfg.val.attemptCap = 0 ∨ t.host.attemptCount + 1 ≠ t.cfg.val.attemptCap := by
    rw [h.host, h.cfg]
    exact .inr hBelow
  have hCounted := step_of_attempt_fail h.rest h.resultPort (.inl (h.host ▸ hPhase))
  rw [attemptFailed_of_below (s := t.lineMoves.setResultPort none) hNot] at hCounted
  have hOffered := step_of_gapRetry (s := { t.lineMoves.setResultPort none with
    host := { t.host with attemptCount := t.host.attemptCount + 1, phase := .gapRetry } })
    ⟨h.rest.idle, h.rest.noCommand, h.rest.noReset⟩ rfl
  refine ⟨_, run_succ hCounted (run_one hOffered), ⟨h.rest.idle, h.rest.noReset, rfl, rfl⟩, h.cfg,
    congrArg (·.attemptCount + 1) h.host, State.lineMoves_silent (State.lineMoves_silent h.silent),
    acts ++ [.wait t.cfg.val.quiescence], ?_, hHistory.append (.wait _ _)⟩
  rw [← List.append_assoc, ← hTrace]
  rfl

/-- Attempts made before count for the run as a whole. -/
theorem State.GaveUp.after {s u t : State} {m n : Nat} {acts : List Action} (h : u.GaveUp t n)
    (hCfg : u.cfg = s.cfg) (hTrace : u.trace = s.trace ++ acts) (hHistory : ProbeHistory s.cfg.val m acts) :
    s.GaveUp t (m + n) := by
  obtain ⟨hConn, hCount, hRes, acts', hTrace', hHistory'⟩ := h
  rw [hCfg] at hCount hRes hHistory'
  exact ⟨hConn, hCount, hRes, acts ++ acts', by rw [hTrace', hTrace, List.append_assoc],
    hHistory.append hHistory'⟩

/-- From a PROBE with `d` more attempts to come behind it, the engine makes them all and stops. -/
theorem run_to_cap {s : State} {d n : Nat} (h : s.Probing)
    (hLeft : s.host.attemptCount + (d + 1) = s.cfg.val.attemptCap) (hSilent : s.tp.Silent n)
    (hLong : (d + 1) * (s.cfg.val.timeoutLimit + 6) ≤ n + 1) :
    ∃ (m : Nat) (t : State), Core.run Sys2Proof.core m s = .next t ∧ s.GaveUp t (d + 1) := by
  induction d generalizing s n with
  | zero =>
    obtain ⟨m, t, hRun, hTimedOut⟩ := run_probe_timeout (n := 0) h (hSilent.mono (by omega))
    obtain ⟨u, hStop, hGaveUp⟩ := hTimedOut.gaveUp h.phase hLeft
    exact ⟨_, u, run_add hRun (run_one hStop), hGaveUp⟩
  | succ d ih =>
    rw [Nat.succ_mul] at hLong
    have hOne : s.cfg.val.timeoutLimit + 6 ≤ (d + 1) * (s.cfg.val.timeoutLimit + 6) :=
      Nat.le_mul_of_pos_left _ (Nat.succ_pos d)
    obtain ⟨m, t, hRun, hTimedOut⟩ :=
      run_probe_timeout (n := n - (s.cfg.val.timeoutLimit + 6) + 2) h (hSilent.mono (by omega))
    obtain ⟨u, hRetry, hProbing, hCfg, hCount, hQuiet, acts, hTrace, hHistory⟩ :=
      hTimedOut.retries h.phase (by omega)
    obtain ⟨m', w, hRest, hGaveUp⟩ :=
      ih hProbing (by rw [hCount, hCfg, ← hLeft]; omega) hQuiet (by rw [hCfg]; omega)
    have hAll := hGaveUp.after hCfg hTrace hHistory
    rw [Nat.add_comm 1] at hAll
    exact ⟨_, w, run_add hRun (run_add hRetry hRest), hAll⟩

/-- Settles O47: the entry offers the first PROBE, and ATTEMPT_CAP attempts follow. -/
theorem capStopsTheEngine : Obligations.CapStopsTheEngine := by
  intro s n hRest hPhase hCap hOpen hAnswering hLine hLong
  obtain ⟨d, hd⟩ : ∃ d, d + 1 = s.cfg.val.attemptCap := ⟨s.cfg.val.attemptCap - 1, by omega⟩
  rw [← hd] at hLong
  have hOne : s.cfg.val.timeoutLimit + 6 ≤ (d + 1) * (s.cfg.val.timeoutLimit + 6) :=
    Nat.le_mul_of_pos_left _ (Nat.succ_pos d)
  have hSilent : s.tp.Silent (n - 1 + 1) := ⟨hOpen, hAnswering, n, by omega, hLine⟩
  have hOffered := step_of_start hRest hPhase
  obtain ⟨m, t, hRun, hConn, hCount, hRes, acts, hTrace, hFrames, hReads, hQuiet⟩ := run_to_cap
    (s := { s.lineMoves with
      host := { s.host with connState := .connecting, attemptCount := 0, phase := .awaitProbe },
      port := some .probe, resultPort := none })
    ⟨hRest.idle, hRest.noReset, rfl, rfl⟩ ((Nat.zero_add _).trans hd) (State.lineMoves_silent hSilent)
    (hLong.trans (by omega))
  exact ⟨_, t, acts, run_succ hOffered hRun, hConn, hCount, hRes, hTrace, hFrames.trans (by rw [hd]; rfl),
    hReads.trans (by rw [hd]; rfl), hQuiet⟩

end Sys2Proof.Machine
end
